-- ==== Sys2Proof/Word.lean ====
section
/-! DEFINITION. The words of the Tiling-address resolver: 32-bit registers (00_scope.md R8), bytes of the
read port, and `low32` (00_scope.md R10), the only narrowing the spec has. -/

namespace Sys2Proof

/-- A register, a command word or a source-buffer address: 32 bits (00_scope.md R8). -/
abbrev Word := BitVec 32

/-- One byte of the source buffer or of a block register. -/
abbrev Byte := BitVec 8

/-- `low32(v) = v mod 2^32` (00_scope.md R10): how an exact value enters a result register (R14). -/
abbrev low32 (v : Nat) : Word := BitVec.ofNat 32 v

end Sys2Proof
end

