-- ==== Sys2Proof/Config.lean ====
section
/-! DEFINITION. What an implementation fixes: the parameters of 00_scope.md R6, and the one value the spec
leaves open. The default values stand in Machine/Tables.lean, the legality check of R6/R9 in
WellFormed.lean. -/

namespace Sys2Proof

/-- The classes the block decoder knows (44_block_decoder.md R211). 'none' of the spec is `Option.none`. -/
inductive BcClass where
  | bc1 | bc2 | bc3
  deriving DecidableEq, Repr

/-- One coordinate bit named by a row of `PIXEL_BIT_TABLE` (00_scope.md R12, 43_address_resolver.md R177). -/
inductive CoordBit where
  | x0 | x1 | x2 | y0 | y1 | y2
  deriving DecidableEq, Repr

/-- One row of `PIXEL_BIT_TABLE`: the coordinate bit that feeds each of the index bits 0 to 5. -/
structure PixelRow where
  s0 : CoordBit
  s1 : CoordBit
  s2 : CoordBit
  s3 : CoordBit
  s4 : CoordBit
  s5 : CoordBit
  deriving DecidableEq, Repr

/-- `PIXEL_BIT_TABLE`: one row per bpp class (43_address_resolver.md R175, R177). -/
structure PixelBitTable where
  c8     : PixelRow
  c16    : PixelRow
  c32    : PixelRow
  c64    : PixelRow
  c128   : PixelRow
  cOther : PixelRow
  deriving DecidableEq, Repr

/-- `SLICE_POLICY` (00_scope.md R6, 43_address_resolver.md R184). -/
inductive SlicePolicy where
  | refuse | noSlice
  deriving DecidableEq, Repr

/-- The parameters of one block (00_scope.md R6). `formatBpp` is the 64-entry `FORMAT_BPP`;
`bcSet` holds `BC_SET` and `BC_CLASS` together, one pair for each code of the set (10_state.md R51). -/
structure Config where
  pipes         : Nat
  banks         : Nat
  groupSize     : Nat
  rowSize       : Nat
  swapSize      : Nat
  splitSize     : Nat
  formatBpp     : List Nat
  bcSet         : List (Word × Option BcClass)
  pixelBits     : PixelBitTable
  slicePolicy   : SlicePolicy
  bc23Code2Four : Bool
  deriving DecidableEq, Repr

/-- What the configuration register at an offset shows of a parameter that its 32 bits cannot hold:
00_scope.md R6 bounds no size and 10_state.md R43 shows each in a 32-bit register (00_scope.md R8). A free
value: DESIGN CHOICE, notes/assumptions/6.md. -/
opaque Config.wideParameter (offset value : Nat) : Word

end Sys2Proof
end

