-- ==== Sys2Proof/Syntax.lean ====
section
/-! DEFINITION. The commands: one constructor per row of the opcode map (30_encoding.md R94). -/

namespace Sys2Proof

/-- A command. Every operand but `BCSEL` is read from a register when the command executes
(30_encoding.md R92); `BCSEL` 0 is `none` (the latched class), 1 to 3 name a class. -/
inductive Instr where
  | nop
  | loadDesc
  | clearStatus
  | fmtLookup
  | pipe
  | bank
  | rotation
  | bswidth
  | pixidx
  | resolve
  | fetch
  | decode (sel : Option BcClass)
  | fetchDecode
  deriving DecidableEq, Repr

end Sys2Proof
end

