-- ==== Sys2Proof/WellFormed.lean ====
section
/-! DEFINITION. Well-formedness of what a model is built from: commands and configurations
(00_scope.md R6, R9). Host accesses are checked in Machine/HostStep.lean (20_memory.md R76). -/

namespace Sys2Proof

/-- Every term of `Instr` is a command of the map: `BCSEL`, the only field, is a type of four values
(30_encoding.md R90), so the type itself excludes an ill-formed command. -/
def Instr.wellFormed : Instr → Bool
  | .nop => true
  | .loadDesc => true
  | .clearStatus => true
  | .fmtLookup => true
  | .pipe => true
  | .bank => true
  | .rotation => true
  | .bswidth => true
  | .pixidx => true
  | .resolve => true
  | .fetch => true
  | .decode _ => true
  | .fetchDecode => true

/-- The legal geometry of 00_scope.md R6: two pipes, 4 or 8 banks, a power-of-two group, at least one
byte of row and of split, any swap size. No size has an upper bound. -/
abbrev Config.GeometryLegal (c : Config) : Prop :=
  c.pipes = 2 ∧ (c.banks = 4 ∨ c.banks = 8) ∧
  c.groupSize = 2 ^ c.groupSize.log2 ∧ 1 ≤ c.rowSize ∧ 1 ≤ c.splitSize

/-- `FORMAT_BPP` has 64 entries, each in {0, 8, 16, 32, 64, 96, 128} (00_scope.md R6, 10_state.md R50). -/
abbrev Config.FormatTableLegal (c : Config) : Prop :=
  c.formatBpp.length = 64 ∧ ∀ b ∈ c.formatBpp, b ∈ [0, 8, 16, 32, 64, 96, 128]

/-- `BC_SET` is a set and `BC_CLASS` a function on it: no code is listed twice (10_state.md R51). -/
abbrev Config.BcSetLegal (c : Config) : Prop :=
  (c.bcSet.map Prod.fst).Nodup

/-- A configuration of this block (00_scope.md R6, R9). -/
abbrev Config.Legal (c : Config) : Prop :=
  c.GeometryLegal ∧ c.FormatTableLegal ∧ c.BcSetLegal

/-- Each of the six coordinate bits is named once (43_address_resolver.md R177). It is not asked of a
legal configuration; statements about one-to-one addressing take it as a premise. -/
abbrev PixelRow.IsPermutation (r : PixelRow) : Prop :=
  [r.s0, r.s1, r.s2, r.s3, r.s4, r.s5].Nodup

/-- Every row of the table is a permutation of the six bits (43_address_resolver.md R177). -/
abbrev PixelBitTable.AllPermutations (t : PixelBitTable) : Prop :=
  t.c8.IsPermutation ∧ t.c16.IsPermutation ∧ t.c32.IsPermutation ∧
  t.c64.IsPermutation ∧ t.c128.IsPermutation ∧ t.cOther.IsPermutation

end Sys2Proof
end

