-- ==== Sys2Proof/Decode.lean ====
section
/-! DEFINITION. The command word (30_encoding.md R90-R96): its fields, the decoder, which is total on
32-bit words and rejects by name, and after it the encoder. -/

namespace Sys2Proof

/-- `OPCODE = CMD[7:0]` (30_encoding.md R90, R91). -/
def opcodeOf (w : Word) : BitVec 8 := w.extractLsb' 0 8

/-- `BCSEL = CMD[9:8]` (30_encoding.md R90, R91). -/
def bcselOf (w : Word) : BitVec 2 := w.extractLsb' 8 2

/-- `CMD[31:10]`, which must be 0 (30_encoding.md R90, R93). -/
def reservedOf (w : Word) : BitVec 22 := w.extractLsb' 10 22

/-- Why a word is no command (60_exceptions.md R258). -/
inductive DecodeError where
  /-- a nonzero bit in `CMD[31:10]` -/
  | reservedBits
  /-- a reserved `OPCODE` (30_encoding.md R95) -/
  | reservedOpcode
  /-- `BCSEL` is not 0 and `OPCODE` is not DECODE's (30_encoding.md R93) -/
  | strayBcsel
  deriving DecidableEq, Repr

/-- What `BCSEL` selects: 0 the latched class, 1 BC1, 2 BC2, 3 BC3 (30_encoding.md R90). -/
def selectorOf (b : BitVec 2) : Option BcClass :=
  if b = 0 then none else if b = 1 then some .bc1 else if b = 2 then some .bc2 else some .bc3

/-- The opcode map (30_encoding.md R94); `none` for the reserved opcodes (R95). -/
def instrOf (op : BitVec 8) (sel : Option BcClass) : Option Instr :=
  match op with
  | 0x00#8 => some .nop
  | 0x01#8 => some .loadDesc
  | 0x02#8 => some .clearStatus
  | 0x03#8 => some .fmtLookup
  | 0x10#8 => some .pipe
  | 0x11#8 => some .bank
  | 0x12#8 => some .rotation
  | 0x13#8 => some .bswidth
  | 0x20#8 => some .pixidx
  | 0x21#8 => some .resolve
  | 0x22#8 => some .fetch
  | 0x30#8 => some (.decode sel)
  | 0x31#8 => some .fetchDecode
  | _ => none

/-- The decode of 30_encoding.md R96. -/
def decode (w : Word) : Except DecodeError Instr :=
  if reservedOf w ≠ 0 then .error .reservedBits
  else
    match instrOf (opcodeOf w) (selectorOf (bcselOf w)) with
    | none => .error .reservedOpcode
    | some i => if bcselOf w = 0 ∨ opcodeOf w = 0x30#8 then .ok i else .error .strayBcsel

/-- The `OPCODE` of a command (30_encoding.md R94). -/
def Instr.opcode : Instr → BitVec 8
  | .nop => 0x00#8
  | .loadDesc => 0x01#8
  | .clearStatus => 0x02#8
  | .fmtLookup => 0x03#8
  | .pipe => 0x10#8
  | .bank => 0x11#8
  | .rotation => 0x12#8
  | .bswidth => 0x13#8
  | .pixidx => 0x20#8
  | .resolve => 0x21#8
  | .fetch => 0x22#8
  | .decode _ => 0x30#8
  | .fetchDecode => 0x31#8

/-- The `BCSEL` of a command: DECODE's selector, 0 for every other (30_encoding.md R90). -/
def Instr.bcsel : Instr → BitVec 2
  | .decode (some .bc1) => 1#2
  | .decode (some .bc2) => 2#2
  | .decode (some .bc3) => 3#2
  | .decode none | .nop | .loadDesc | .clearStatus | .fmtLookup | .pipe | .bank | .rotation
  | .bswidth | .pixidx | .resolve | .fetch | .fetchDecode => 0#2

/-- The one word of a command (30_encoding.md R90): `OPCODE` in [7:0], `BCSEL` in [9:8], the rest 0. -/
def encode (i : Instr) : Word := BitVec.ofNat 32 (i.opcode.toNat + 2 ^ 8 * i.bcsel.toNat)

/-- The command the decoder reads from a word numbered as the opcode table numbers its bits: the table's
row is one 32-bit `CMD` word, bit 0 the least significant (30_encoding.md R90). -/
def decodeTableWord (nbits w : Nat) : Option Instr :=
  match decode (BitVec.ofNat 32 (w % 2 ^ nbits)) with
  | .ok i => some i
  | .error _ => none

end Sys2Proof
end

