-- ==== Sys2Proof/Machine/HostStep.lean ====
section
/-! DEFINITION. The register window (10_state.md R32) and what the host can do to the block between commands
(20_memory.md R76, R81, 30_encoding.md R99, 70_reset_and_hazards.md R280). -/

namespace Sys2Proof.Machine

/-- The named registers of the window (10_state.md R32). -/
inductive Reg where
  | cmd | status
  | descWidth | descHeight | descPitch | descTileMode | descSwizzle | descFormat | descDataSize
  | argX | argY | argT
  | blk0 | blk1 | blk2 | blk3
  | res0 | res1
  | cfgPipes | cfgBanks | cfgGroupSize | cfgRowSize | cfgSwapSize | cfgSplitSize | cfgOptions
  deriving DecidableEq, Repr

/-- The offset of a register (10_state.md R32). -/
def Reg.offset : Reg → Nat
  | .cmd => 0x00
  | .status => 0x04
  | .descWidth => 0x08
  | .descHeight => 0x0C
  | .descPitch => 0x10
  | .descTileMode => 0x14
  | .descSwizzle => 0x18
  | .descFormat => 0x1C
  | .descDataSize => 0x20
  | .argX => 0x24
  | .argY => 0x28
  | .argT => 0x2C
  | .blk0 => 0x30
  | .blk1 => 0x34
  | .blk2 => 0x38
  | .blk3 => 0x3C
  | .res0 => 0x40
  | .res1 => 0x44
  | .cfgPipes => 0x60
  | .cfgBanks => 0x64
  | .cfgGroupSize => 0x68
  | .cfgRowSize => 0x6C
  | .cfgSwapSize => 0x70
  | .cfgSplitSize => 0x74
  | .cfgOptions => 0x78

/-- Every named register, in the order of the map (10_state.md R32). -/
def Reg.all : List Reg :=
  [.cmd, .status, .descWidth, .descHeight, .descPitch, .descTileMode, .descSwizzle, .descFormat,
   .descDataSize, .argX, .argY, .argT, .blk0, .blk1, .blk2, .blk3, .res0, .res1, .cfgPipes, .cfgBanks,
   .cfgGroupSize, .cfgRowSize, .cfgSwapSize, .cfgSplitSize, .cfgOptions]

/-- The register at an offset; `none` at a reserved one (10_state.md R44). -/
def Reg.atOffset (o : Nat) : Option Reg := Reg.all.find? fun r => r.offset == o

/-- One thing the host does. Register accesses carry their width in bytes and their offset from the
window's base (60_exceptions.md R273); the source buffer is the host's own to fill
(20_memory.md R72); the reset input is asserted between commands (70_reset_and_hazards.md R280). -/
inductive HostStep where
  | write (width offset : Nat) (value : Word)
  | read (width offset : Nat)
  | setByte (addr : Word) (value : Byte)
  | reset
  deriving DecidableEq, Repr

/-- The offset lies in the 128-byte window (10_state.md R32). -/
def inWindow (offset : Nat) : Bool := offset < 0x80

/-- A register access is 32 bits wide at a 4-byte-aligned offset (20_memory.md R76). -/
def alignedWord (width offset : Nat) : Bool := width == 4 && offset % 4 == 0

/-- The host's action is one this spec gives a meaning (10_state.md R32, 20_memory.md R76). -/
def HostStep.wellFormed : HostStep → Bool
  | .write width offset _ => alignedWord width offset && inWindow offset
  | .read width offset => alignedWord width offset && inWindow offset
  | .setByte _ _ => true
  | .reset => true

end Sys2Proof.Machine
end

