-- ==== Sys2Proof/Machine/Tables.lean ====
section
/-! DEFINITION. The fixed tables and derived constants: the default parameters (00_scope.md R6, 10_state.md
R50, R51, 43_address_resolver.md R177), the bit counts (00_scope.md R7), the tile-mode attributes
(10_state.md R48), the bank-swap order (R49), and the FormatTable functions (40_control_and_descriptor.md
R114-R118). -/

namespace Sys2Proof

/-- The default `PIXEL_BIT_TABLE` (43_address_resolver.md R177). -/
def PixelBitTable.default : PixelBitTable where
  c8     := ⟨.x0, .x1, .x2, .y1, .y0, .y2⟩
  c16    := ⟨.x0, .x1, .x2, .y0, .y1, .y2⟩
  c32    := ⟨.x0, .x1, .y0, .x2, .y1, .y2⟩
  c64    := ⟨.x0, .y0, .x1, .x2, .y1, .y2⟩
  c128   := ⟨.y0, .x0, .x1, .x2, .y1, .y2⟩
  cOther := ⟨.x0, .x1, .y0, .x2, .y1, .y2⟩

/-- The default `FORMAT_BPP` (10_state.md R50): entry 0x1A is 32, 0x31 is 64, 0x32 and 0x33 are 128,
every other entry is 0. -/
def Config.defaultFormatBpp : List Nat :=
  List.replicate 0x1A 0 ++ [32] ++ List.replicate (0x31 - 0x1B) 0 ++ [64, 128, 128] ++
    List.replicate (64 - 0x34) 0

/-- The default `BC_SET` with its `BC_CLASS` (10_state.md R51). -/
def Config.defaultBcSet : List (Word × Option BcClass) :=
  [(0x31#32, some .bc1), (0x32#32, some .bc2), (0x33#32, some .bc3),
   (0x431#32, some .bc1), (0x432#32, some .bc2), (0x433#32, some .bc3)]

/-- The default parameters (00_scope.md R6). -/
def Config.default : Config where
  pipes := 2
  banks := 4
  groupSize := 256
  rowSize := 2048
  swapSize := 256
  splitSize := 2048
  formatBpp := Config.defaultFormatBpp
  bcSet := Config.defaultBcSet
  pixelBits := PixelBitTable.default
  slicePolicy := .refuse
  bc23Code2Four := false

/-- `NUM_PIPE_BITS` (00_scope.md R7). -/
def Config.numPipeBits (c : Config) : Nat := c.pipes.log2

/-- `NUM_BANK_BITS` (00_scope.md R7). -/
def Config.numBankBits (c : Config) : Nat := c.banks.log2

/-- `NUM_GROUP_BITS` (00_scope.md R7). -/
def Config.numGroupBits (c : Config) : Nat := c.groupSize.log2

/-- `NUM_SWIZZLE_BITS` (00_scope.md R7). -/
def Config.numSwizzleBits (c : Config) : Nat := c.numBankBits + c.numPipeBits

/-- `bitsPerPixel(f) = FORMAT_BPP[f AND 0x3F]` (40_control_and_descriptor.md R114). -/
def Config.bitsPerPixel (c : Config) (f : Word) : Nat := c.formatBpp.getD (f.toNat &&& 0x3F) 0

/-- The entry of `BC_SET` for a whole 32-bit code: `none` when the code is not in the set, else its
`BC_CLASS` (10_state.md R51). -/
def Config.bcEntry (c : Config) (f : Word) : Option (Option BcClass) :=
  (c.bcSet.find? fun e => e.1 == f).map Prod.snd

/-- `isBlockCompressed(f)` (40_control_and_descriptor.md R115). -/
def Config.isBlockCompressed (c : Config) (f : Word) : Bool := (c.bcEntry f).isSome

/-- The class of a code: that of `BC_CLASS` for a code of `BC_SET`, none for any other
(40_control_and_descriptor.md R113, R124). -/
def Config.classOf (c : Config) (f : Word) : Option BcClass := (c.bcEntry f).join

/-- The class number of `STATUS.BC_CLASS` and of FMT_LOOKUP (10_state.md R34,
40_control_and_descriptor.md R124). -/
def classNumber : Option BcClass → Nat
  | none => 0
  | some .bc1 => 1
  | some .bc2 => 2
  | some .bc3 => 3

/-- `bcBits` (40_control_and_descriptor.md R118). -/
def bcBits : BcClass → Nat
  | .bc1 => 64
  | .bc2 => 128
  | .bc3 => 128

/-- The bits per pixel LOAD_DESC accepts (40_control_and_descriptor.md R116). -/
def legalBpp : List Nat := [8, 16, 32, 64, 128]

/-- `ceil(a / b)` (00_scope.md R11). -/
def ceilDiv (a b : Nat) : Nat := (a + b - 1) / b

namespace Machine

/-- `tileClass(m)` (10_state.md R48): 0 linear, 1 micro-tiled, 2 macro-tiled. -/
inductive TileClass where
  | linear | micro | macroTiled
  deriving DecidableEq, Repr

/-- The number of a class in `STATUS.TILE_CLASS` (10_state.md R34). -/
def tileClassNumber : TileClass → Nat
  | .linear => 0
  | .micro => 1
  | .macroTiled => 2

/-- `tileClass(m)` for the legal modes 0 to 15 (10_state.md R48, 40_control_and_descriptor.md R119). -/
def tileClassOf (m : Nat) : TileClass :=
  if m < 2 then .linear else if m < 4 then .micro else .macroTiled

/-- `isThickMacro(m)` (10_state.md R48). -/
def isThickMacro (m : Nat) : Bool := m ∈ [7, 11, 13, 15]

/-- `isBankSwapped(m)` (10_state.md R48). -/
def isBankSwapped (m : Nat) : Bool := m ∈ [8, 9, 10, 11, 14, 15]

/-- `thickness(m)` (10_state.md R48): 4 for mode 3 and the thick macro modes, 8 for the reserved codes
16 and 17, else 1. -/
def thickness (m : Nat) : Nat :=
  if m = 3 ∨ isThickMacro m then 4 else if m = 16 ∨ m = 17 then 8 else 1

/-- `aspect(m)` (10_state.md R48). -/
def aspect (m : Nat) : Nat :=
  if m = 5 ∨ m = 9 then 2 else if m = 6 ∨ m = 10 then 4 else 1

/-- `BANK_SWAP_ORDER` (10_state.md R49). -/
def bankSwapOrder : List Nat := [0, 1, 3, 2, 6, 7, 5, 4, 0, 0]

end Machine

end Sys2Proof
end

