-- ==== Sys2Proof/Machine/State.lean ====
section
/-! DEFINITION. The machine's state as plain data: every register of 10_state.md, the latched descriptor,
the host-owned source buffer the commands read, and the host's accesses still to come. -/

namespace Sys2Proof.Machine

/-- The live descriptor registers (10_state.md R35-R38). `DESC_TILEMODE` stores its bits [4:0] only. -/
structure DescRegs where
  width    : Word
  height   : Word
  pitch    : Word
  tileMode : BitVec 5
  swizzle  : Word
  format   : Word
  dataSize : Word
  deriving DecidableEq, Repr

/-- The block registers `BLK0` to `BLK3` (10_state.md R41). -/
structure BlockRegs where
  b0 : Word
  b1 : Word
  b2 : Word
  b3 : Word
  deriving DecidableEq, Repr

/-- The latched descriptor `lat` (10_state.md R40). `lat.isBC` is the view `Latch.isBC` of `bcClass`:
LOAD_DESC never latches one without the other (40_control_and_descriptor.md R113, R121; DEDUCED,
notes/assumptions/5.md). -/
structure Latch where
  width       : Word
  height      : Word
  pitch       : Word
  tileMode    : BitVec 4
  pipeSwizzle : BitVec 1
  bankSwizzle : BitVec 2
  format      : Word
  dataSize    : Word
  bpp         : Nat
  bcClass     : Option BcClass
  tileClass   : TileClass
  elemW       : Nat
  elemH       : Nat
  bsw         : Nat
  deriving DecidableEq, Repr

/-- `lat.isBC` (10_state.md R40). -/
def Latch.isBC (l : Latch) : Bool := l.bcClass.isSome

/-- The latch with every field 0 (10_state.md R40, 40_control_and_descriptor.md R123). -/
def Latch.zero : Latch where
  width := 0
  height := 0
  pitch := 0
  tileMode := 0
  pipeSwizzle := 0
  bankSwizzle := 0
  format := 0
  dataSize := 0
  bpp := 0
  bcClass := none
  tileClass := .linear
  elemW := 0
  elemH := 0
  bsw := 0

/-- The errors of 60_exceptions.md R251. -/
inductive ErrorKind where
  | unsupportedFormat
  | reservedTileMode
  | descriptorInvalid
  | descriptorNotLoaded
  | coordinateOutOfRange
  | addressOutOfRange
  | illegalCommand
  | splitAmbiguous
  | arithmeticFault
  | formatClassMismatch
  deriving DecidableEq, Repr

/-- The source buffer: pairs of an address and a byte, addresses strictly rising, no byte equal to what
an unlisted address reads as (Machine/Ops.lean: `unlistedByte`). -/
abbrev Memory := List Host.Cell

/-- The machine. `cfg` are the configuration registers' parameters (10_state.md R43), which no step
changes. `src` is the host's source buffer (R53). `pending` and `reads` are the MODEL's own fields for
the host's side of the one total order of 20_memory.md R81: the host's actions still to come, and the
values its register reads have returned, latest first (notes/assumptions/2.md). -/
structure State where
  cfg       : Config
  desc      : DescRegs
  argX      : Word
  argY      : Word
  argT      : BitVec 4
  blk       : BlockRegs
  res0      : Word
  res1      : Word
  descValid : Bool
  oor       : Bool
  err       : Bool
  errCode   : BitVec 8
  lat       : Latch
  src       : Memory
  pending   : List HostStep
  reads     : List Word
  deriving DecidableEq, Repr

/-- Every way a step can stop with a fault. -/
inductive Fault where
  /-- Raised by a host register access whose offset lies outside the 128-byte window (10_state.md R32):
  no register of the block is there. Safe: the model stops. -/
  | outsideWindow (offset : Nat)
  deriving DecidableEq, Repr

/-- Every way a step can be refused. -/
inductive Refusal where
  /-- Answered by an arm of `exec` for a command without a meaning. No arm answers it. Safe. -/
  | notModelled (mnemonic : String)
  /-- Answered for a host register access that is not 32 bits wide at a 4-byte-aligned offset: "a model
  refuses it" (20_memory.md R76). Safe. -/
  | unalignedAccess (width offset : Nat)
  /-- Answered for every step of a machine whose parameters are not legal: "a model refuses to build it"
  (00_scope.md R9). Safe. -/
  | illegalConfiguration
  deriving DecidableEq, Repr

/-- The reset values of 10_state.md R55 and 70_reset_and_hazards.md R281 for a block with parameters `c`;
nothing is in the host's buffer and no host action waits. -/
def State.resetWith (c : Config) : State where
  cfg := c
  desc := ⟨0, 0, 0, 0, 0, 0, 0⟩
  argX := 0
  argY := 0
  argT := 0
  blk := ⟨0, 0, 0, 0⟩
  res0 := 0
  res1 := 0
  descValid := false
  oor := false
  err := false
  errCode := 0
  lat := Latch.zero
  src := []
  pending := []
  reads := []

/-- The machine right after reset, with the default parameters (00_scope.md R6). -/
def State.reset : State := State.resetWith Config.default

end Sys2Proof.Machine
end

