-- ==== Sys2Proof/Machine/Flags.lean ====
section
/-! DEFINITION. The status register: error codes (60_exceptions.md R251) and the layout of `STATUS`
(10_state.md R34). -/

namespace Sys2Proof.Machine

/-- The `ERRCODE` of an error (60_exceptions.md R251). -/
def ErrorKind.code : ErrorKind → BitVec 8
  | .unsupportedFormat => 0x01#8
  | .reservedTileMode => 0x02#8
  | .descriptorInvalid => 0x03#8
  | .descriptorNotLoaded => 0x04#8
  | .coordinateOutOfRange => 0x05#8
  | .addressOutOfRange => 0x06#8
  | .illegalCommand => 0x07#8
  | .splitAmbiguous => 0x08#8
  | .arithmeticFault => 0x09#8
  | .formatClassMismatch => 0x0A#8

/-- `STATUS[31:16]`, the views of the latched descriptor while it is valid (10_state.md R34):
`TILE_CLASS` in [17:16], `IS_BC` in [18], `BC_CLASS` in [20:19], `BPP` in [31:24]. -/
def Latch.view (l : Latch) : Nat :=
  tileClassNumber l.tileClass + 2 ^ 2 * l.isBC.toNat + 2 ^ 3 * classNumber l.bcClass +
    2 ^ 8 * (l.bpp % 2 ^ 8)

/-- `STATUS` as the host reads it (10_state.md R34): the latched views, which read 0 while `DESC_VALID`
is 0, `ERRCODE` in [15:8], `ERR` in [2], `OOR` in [1], `DESC_VALID` in [0]. -/
def State.statusWord (s : State) : Word :=
  low32 (s.descValid.toNat + 2 ^ 1 * s.oor.toNat + 2 ^ 2 * s.err.toNat + 2 ^ 8 * s.errCode.toNat +
    2 ^ 16 * (if s.descValid then s.lat.view else 0))

end Sys2Proof.Machine
end

