-- ==== Sys2Proof/Machine/Ops.lean ====
section
/-! DEFINITION. The named operations: the source buffer, the block and result registers, recording an error
and acknowledging one, the descriptor latch, and the host's view of the registers. -/

namespace Sys2Proof.Machine

/-! ## The source buffer (20_memory.md R70-R72) -/

/-- What an address reads as that the host has given no byte. DESIGN CHOICE, unsafe
(notes/assumptions/1.md): the spec takes the buffer's contents as an input the host supplies (R72). -/
def unlistedByte : Byte := 0

/-- The canonical form: addresses strictly rising, all of them 32-bit (20_memory.md R70), no byte equal
to `unlistedByte`. -/
abbrev Memory.wf (m : Memory) : Prop :=
  m.Pairwise (fun a b => a.1 < b.1) ∧ ∀ c ∈ m, c.1 < 2 ^ 32 ∧ c.2 ≠ unlistedByte

/-- `SRC[a]` (20_memory.md R71). -/
def Memory.read : Memory → Nat → Byte
  | [], _ => unlistedByte
  | (k, b) :: m, a => if a = k then b else Memory.read m a

/-- The host gives address `a` the byte `b` (20_memory.md R72), keeping the canonical form. -/
def Memory.write : Memory → Nat → Byte → Memory
  | [], a, b => if b = unlistedByte then [] else [(a, b)]
  | (k, c) :: m, a, b =>
    if a < k then (if b = unlistedByte then (k, c) :: m else (a, b) :: (k, c) :: m)
    else if a = k then (if b = unlistedByte then m else (a, b) :: m)
    else (k, c) :: Memory.write m a b

/-- `MemRead(addr, n)` (20_memory.md R71). -/
def Memory.readSpan (m : Memory) (addr n : Nat) : List Byte :=
  (List.range n).map fun i => m.read (addr + i)

/-! ## Block registers (10_state.md R41) -/

/-- The four bytes of a register, the lowest-addressed in bits [7:0] (20_memory.md R74). -/
def wordBytes (w : Word) : List Byte :=
  [w.extractLsb' 0 8, w.extractLsb' 8 8, w.extractLsb' 16 8, w.extractLsb' 24 8]

/-- Four bytes as a register, the lowest-addressed in bits [7:0] (20_memory.md R74). -/
def packBytes (b0 b1 b2 b3 : Byte) : Word :=
  low32 (b0.toNat + 2 ^ 8 * b1.toNat + 2 ^ 16 * b2.toNat + 2 ^ 24 * b3.toNat)

/-- `blk[0..15]` (10_state.md R41). -/
def BlockRegs.bytes (r : BlockRegs) : List Byte :=
  wordBytes r.b0 ++ wordBytes r.b1 ++ wordBytes r.b2 ++ wordBytes r.b3

/-- The register that holds `blk[k .. k+3]` when the block is `bytes` followed by zeros. -/
def packAt (bytes : List Byte) (k : Nat) : Word :=
  packBytes (bytes.getD k 0) (bytes.getD (k + 1) 0) (bytes.getD (k + 2) 0) (bytes.getD (k + 3) 0)

/-- The block registers holding `bytes` and, after them, zeros up to `blk[15]`
(43_address_resolver.md R195, 44_block_decoder.md R221). -/
def BlockRegs.ofBytes (bytes : List Byte) : BlockRegs :=
  ⟨packAt bytes 0, packAt bytes 4, packAt bytes 8, packAt bytes 12⟩

/-- `BLK0`-`BLK3` receive a block. -/
def State.setBlk (s : State) (b : BlockRegs) : State := { s with blk := b }

/-! ## Result registers (10_state.md R42) -/

/-- `RES0` receives `low32` of an exact value (00_scope.md R14). -/
def State.setRes0 (s : State) (v : Nat) : State := { s with res0 := low32 v }

/-- `RES1` receives `low32` of an exact value (00_scope.md R14). -/
def State.setRes1 (s : State) (v : Nat) : State := { s with res1 := low32 v }

/-! ## Errors: recording one and acknowledging it (60_exceptions.md R262, R263, R266) -/

/-- `raise E`: the one way a command ends in a non-recoverable error (60_exceptions.md R262). -/
def State.raise (s : State) (e : ErrorKind) : State := { s with err := true, errCode := e.code }

/-- `flag AddressOutOfRange`: the recoverable error, after which the command goes on
(60_exceptions.md R263). -/
def State.flagOutOfRange (s : State) : State :=
  { s with oor := true, errCode := ErrorKind.addressOutOfRange.code }

/-- The host's acknowledgement of an error, the nearest thing to a return (60_exceptions.md R266,
40_control_and_descriptor.md R112). -/
def State.acknowledge (s : State) : State := { s with oor := false, err := false, errCode := 0 }

/-! ## The descriptor latch (40_control_and_descriptor.md R122, R123) -/

/-- A successful LOAD_DESC (40_control_and_descriptor.md R122). -/
def State.commit (s : State) (l : Latch) : State := { s with lat := l, descValid := true }

/-- A failed LOAD_DESC drops the latch before its error is recorded (40_control_and_descriptor.md R123). -/
def State.dropLatch (s : State) : State := { s with lat := Latch.zero, descValid := false }

/-! ## The host's view of the registers (10_state.md R32-R45) -/

/-- `CFG_OPTIONS` (10_state.md R43). -/
def optionsWord (c : Config) : Word :=
  low32 ((c.slicePolicy == .noSlice).toNat + 2 * c.bc23Code2Four.toNat)

/-- What the configuration register `r` shows of its parameter: the parameter, where its 32 bits hold it
(10_state.md R43), else a free value (notes/assumptions/6.md). -/
def parameterWord (r : Reg) (v : Nat) : Word :=
  if v < 2 ^ 32 then low32 v else Config.wideParameter r.offset v

/-- What a register reads as. `CMD` reads as 0 (10_state.md R33); a read has no effect (20_memory.md R79). -/
def State.readReg (s : State) : Reg → Word
  | .cmd => 0
  | .status => s.statusWord
  | .descWidth => s.desc.width
  | .descHeight => s.desc.height
  | .descPitch => s.desc.pitch
  | .descTileMode => s.desc.tileMode.zeroExtend 32
  | .descSwizzle => s.desc.swizzle
  | .descFormat => s.desc.format
  | .descDataSize => s.desc.dataSize
  | .argX => s.argX
  | .argY => s.argY
  | .argT => s.argT.zeroExtend 32
  | .blk0 => s.blk.b0
  | .blk1 => s.blk.b1
  | .blk2 => s.blk.b2
  | .blk3 => s.blk.b3
  | .res0 => s.res0
  | .res1 => s.res1
  | .cfgPipes => parameterWord .cfgPipes s.cfg.pipes
  | .cfgBanks => parameterWord .cfgBanks s.cfg.banks
  | .cfgGroupSize => parameterWord .cfgGroupSize s.cfg.groupSize
  | .cfgRowSize => parameterWord .cfgRowSize s.cfg.rowSize
  | .cfgSwapSize => parameterWord .cfgSwapSize s.cfg.swapSize
  | .cfgSplitSize => parameterWord .cfgSplitSize s.cfg.splitSize
  | .cfgOptions => optionsWord s.cfg

/-- What an offset of the window reads as: reserved offsets read as 0 (10_state.md R44). -/
def State.readOffset (s : State) (offset : Nat) : Word :=
  match Reg.atOffset offset with
  | some r => s.readReg r
  | none => 0

/-- The host writes a register other than `CMD`: a RW register stores the value (reserved bits are
ignored), a write to a RO register is ignored (10_state.md R35-R45). A write to `CMD` executes a command
and stores nothing (R33): Machine/Access.lean. -/
def State.writeReg (s : State) (r : Reg) (v : Word) : State :=
  match r with
  | .descWidth => { s with desc := { s.desc with width := v } }
  | .descHeight => { s with desc := { s.desc with height := v } }
  | .descPitch => { s with desc := { s.desc with pitch := v } }
  | .descTileMode => { s with desc := { s.desc with tileMode := v.extractLsb' 0 5 } }
  | .descSwizzle => { s with desc := { s.desc with swizzle := v } }
  | .descFormat => { s with desc := { s.desc with format := v } }
  | .descDataSize => { s with desc := { s.desc with dataSize := v } }
  | .argX => { s with argX := v }
  | .argY => { s with argY := v }
  | .argT => { s with argT := v.extractLsb' 0 4 }
  | .blk0 => { s with blk := { s.blk with b0 := v } }
  | .blk1 => { s with blk := { s.blk with b1 := v } }
  | .blk2 => { s with blk := { s.blk with b2 := v } }
  | .blk3 => { s with blk := { s.blk with b3 := v } }
  | .cmd | .status | .res0 | .res1 => s
  | .cfgPipes | .cfgBanks | .cfgGroupSize | .cfgRowSize | .cfgSwapSize | .cfgSplitSize
  | .cfgOptions => s

/-- The host reads the window: the value returned is recorded on the host's side
(20_memory.md R79, R81). -/
def State.hostRead (s : State) (offset : Nat) : State := { s with reads := s.readOffset offset :: s.reads }

/-- The host gives its source buffer a byte (20_memory.md R72). -/
def State.hostSetByte (s : State) (addr : Word) (b : Byte) : State :=
  { s with src := s.src.write addr.toNat b }

/-- The reset input (70_reset_and_hazards.md R280): the block's state resets; the host's buffer and the
host's side of the order are not the block's (10_state.md R53). -/
def State.resetBlock (s : State) : State :=
  { State.resetWith s.cfg with src := s.src, pending := s.pending, reads := s.reads }

end Sys2Proof.Machine
end

