-- ==== Sys2Proof/Machine/Operands.lean ====
section
/-! DEFINITION. The operands of 30_encoding.md R92: what a command reads, each as the exact number the
formulas use (00_scope.md R10, R14). -/

namespace Sys2Proof.Machine

/-- `x = ARG_X` (30_encoding.md R92). -/
def State.x (s : State) : Nat := s.argX.toNat

/-- `y = ARG_Y` (30_encoding.md R92). -/
def State.y (s : State) : Nat := s.argY.toNat

/-- `tx = ARG_T[1:0]` (30_encoding.md R92). -/
def State.tx (s : State) : Nat := (s.argT.extractLsb' 0 2).toNat

/-- `ty = ARG_T[3:2]` (30_encoding.md R92). -/
def State.ty (s : State) : Nat := (s.argT.extractLsb' 2 2).toNat

/-- `pipeSwizzle = DESC_SWIZZLE[8]` (10_state.md R37). -/
def DescRegs.pipeSwizzle (d : DescRegs) : BitVec 1 := d.swizzle.extractLsb' 8 1

/-- `bankSwizzle = DESC_SWIZZLE[10:9]` (10_state.md R37). -/
def DescRegs.bankSwizzle (d : DescRegs) : BitVec 2 := d.swizzle.extractLsb' 9 2

/-- The latched tile mode as the number the attribute table is indexed by (10_state.md R48). -/
def Latch.mode (l : Latch) : Nat := l.tileMode.toNat

/-- The bytes of one element: `n = lat.bpp div 8` (43_address_resolver.md R186). -/
def Latch.span (l : Latch) : Nat := l.bpp / 8

/-- `LE(bytes)`: the little-endian number of a byte list (00_scope.md R13). -/
def leNat : List Byte → Nat
  | [] => 0
  | b :: bs => b.toNat + 2 ^ 8 * leNat bs

/-- `le(k, n)`: the little-endian number of `blk[k .. k+n-1]` (44_block_decoder.md R211). -/
def BlockRegs.le (r : BlockRegs) (k n : Nat) : Nat := leNat ((r.bytes.drop k).take n)

/-- Bit `k` of a number as 0 or 1: `(v >> k) AND 1` (00_scope.md R12). -/
def bitAt (v k : Nat) : Nat := (v >>> k) &&& 1

/-- The coordinate bits of 00_scope.md R12. -/
def coordBitValue (x y : Nat) : CoordBit → Nat
  | .x0 => bitAt x 0
  | .x1 => bitAt x 1
  | .x2 => bitAt x 2
  | .y0 => bitAt y 0
  | .y1 => bitAt y 1
  | .y2 => bitAt y 2

end Sys2Proof.Machine
end

