-- ==== Sys2Proof/Machine/BankPipe.lean ====
section
/-! DEFINITION. The bank/pipe calculator (42_bank_pipe.md): the functions of R140-R147 and the commands
PIPE, BANK, ROTATION and BSWIDTH. -/

namespace Sys2Proof.Machine

/-- `pipeIndex(x, y)` (42_bank_pipe.md R140). -/
def pipeIndex (x y : Nat) : Nat := ((y >>> 3) ^^^ (x >>> 3)) &&& 1

/-- `bankIndex(x, y)` for 4 banks (42_bank_pipe.md R141). -/
def bankIndex4 (pipes x y : Nat) : Nat :=
  let b0 := ((y / (16 * pipes)) ^^^ (x >>> 3)) &&& 1
  let b1 := ((y / (8 * pipes)) ^^^ (x >>> 4)) &&& 1
  b0 ||| (2 * b1)

/-- `bankIndex(x, y)` for 8 banks (42_bank_pipe.md R142, which takes it from general knowledge). -/
def bankIndex8 (pipes x y : Nat) : Nat :=
  let b0 := ((y / (32 * pipes)) ^^^ (x >>> 3)) &&& 1
  let b1 := ((y / (32 * pipes)) ^^^ (y / (16 * pipes)) ^^^ (x >>> 4)) &&& 1
  let b2 := ((y / (8 * pipes)) ^^^ (x >>> 5)) &&& 1
  b0 ||| (2 * b1) ||| (4 * b2)

/-- `bankIndex(x, y)` of a configuration: the formula of its bank count. No other count is a
configuration of the block (00_scope.md R9). -/
def bankIndex (c : Config) (x y : Nat) : Nat :=
  if c.banks = 8 then bankIndex8 c.pipes x y else bankIndex4 c.pipes x y

/-- `surfaceRotation(m)` (42_bank_pipe.md R145). -/
def surfaceRotation (c : Config) (m : Nat) : Nat :=
  if 4 ≤ m ∧ m ≤ 11 then c.pipes * ((c.banks >>> 1) - 1)
  else if 12 ≤ m ∧ m ≤ 15 then (if 4 ≤ c.pipes then (c.pipes >>> 1) - 1 else 1)
  else 0

/-- `while w >= limit do w <- w >> 1` (42_bank_pipe.md R147), with `fuel` rounds at most: `w` rounds are
enough for every `limit >= 1`. -/
def halveBelow (limit : Nat) : Nat → Nat → Nat
  | 0, w => w
  | fuel + 1, w => if limit ≤ w then halveBelow limit fuel (w >>> 1) else w

/-- `slicesPerTile` (42_bank_pipe.md R147): from the one sample of a 2D surface; 1 when `samplesPerTile`,
`SPLIT_SIZE div (8*bpp)`, is 0. -/
def slicesPerTile (c : Config) (bpp : Nat) : Nat :=
  if c.splitSize / (8 * bpp) ≠ 0 then max 1 (1 / (c.splitSize / (8 * bpp))) else 1

/-- `numSamples` after its forcing to 4 for the thick macro modes (42_bank_pipe.md R147). -/
def numSamples (m : Nat) : Nat := if isThickMacro m then 4 else 1

/-- `bytesPerTileSlice` (42_bank_pipe.md R147). -/
def bytesPerTileSlice (c : Config) (m bpp : Nat) : Nat :=
  (numSamples m * (8 * bpp)) / slicesPerTile c bpp

/-- `heightBytes` (42_bank_pipe.md R147). -/
def heightBytes (c : Config) (m bpp : Nat) : Nat :=
  (numSamples m * aspect m * c.pipes * bpp) / slicesPerTile c bpp

/-- `swapWidth` (42_bank_pipe.md R147). -/
def swapWidth (c : Config) (bpp : Nat) : Nat := max 1 ((c.swapSize >>> 1) / bpp) * 8 * c.banks

/-- `swapMax` (42_bank_pipe.md R147). -/
def swapMax (c : Config) (m bpp : Nat) : Nat := (c.pipes * c.banks * c.rowSize) / heightBytes c m bpp

/-- `swapMin` (42_bank_pipe.md R147). -/
def swapMin (c : Config) (m bpp : Nat) : Nat := (c.groupSize * 8 * c.banks) / bytesPerTileSlice c m bpp

/-- The width of `bankSwappedWidth` before its halving loop, for a bank-swapped mode
(42_bank_pipe.md R147, tabulated for the default geometry in R149); a division by 0 is the
ArithmeticFault of 60_exceptions.md R259. -/
def unhalvedSwapWidth (c : Config) (m bpp : Nat) : Except ErrorKind Nat :=
  if heightBytes c m bpp = 0 ∨ bytesPerTileSlice c m bpp = 0 then .error .arithmeticFault
  else .ok (min (swapMax c m bpp) (max (swapMin c m bpp) (swapWidth c bpp)))

/-- `bankSwappedWidth(m, bpp, pitch)` (42_bank_pipe.md R147). -/
def bankSwappedWidth (c : Config) (m bpp pitch : Nat) : Except ErrorKind Nat :=
  if isBankSwapped m then
    match unhalvedSwapWidth c m bpp with
    | .error e => .error e
    | .ok w => .ok (halveBelow (2 * pitch) w w)
  else .ok 0

/-- `PIPE` (42_bank_pipe.md R143). -/
def execPipe (s : State) : Host.Outcome State Fault Refusal :=
  .next (s.setRes0 (pipeIndex s.x s.y))

/-- `BANK` (42_bank_pipe.md R144). -/
def execBank (s : State) : Host.Outcome State Fault Refusal :=
  .next (s.setRes0 (bankIndex s.cfg s.x s.y))

/-- `ROTATION` (42_bank_pipe.md R146). -/
def execRotation (s : State) : Host.Outcome State Fault Refusal :=
  .next (if s.descValid then s.setRes0 (surfaceRotation s.cfg s.lat.mode)
    else s.raise .descriptorNotLoaded)

/-- `BSWIDTH` (42_bank_pipe.md R148). -/
def execBswidth (s : State) : Host.Outcome State Fault Refusal :=
  .next (if s.descValid then s.setRes0 s.lat.bsw else s.raise .descriptorNotLoaded)

end Sys2Proof.Machine
end

