-- ==== Sys2Proof/Machine/Control.lean ====
section
/-! DEFINITION. The control, descriptor and format commands (40_control_and_descriptor.md): NOP,
CLEAR_STATUS, LOAD_DESC and FMT_LOOKUP. -/

namespace Sys2Proof.Machine

/-- A class number is legal for a format when the format is not block-compressed, or has a class whose
block size is its bpp (40_control_and_descriptor.md R121). -/
def bcFormatOk (c : Config) (f : Word) : Bool :=
  match c.bcEntry f with
  | none => true
  | some none => false
  | some (some cls) => c.bitsPerPixel f == bcBits cls

/-- The extent in elements: blocks for a block-compressed format, else pixels (00_scope.md R15). -/
def elemExtent (isBC : Bool) (v : Nat) : Nat := if isBC then ceilDiv v 4 else v

/-- The latch a successful LOAD_DESC commits (40_control_and_descriptor.md R122). -/
def latchOf (c : Config) (d : DescRegs) (bsw : Nat) : Latch where
  width := d.width
  height := d.height
  pitch := d.pitch
  tileMode := d.tileMode.setWidth 4
  pipeSwizzle := d.pipeSwizzle
  bankSwizzle := d.bankSwizzle
  format := d.format
  dataSize := d.dataSize
  bpp := c.bitsPerPixel d.format
  bcClass := c.classOf d.format
  tileClass := tileClassOf d.tileMode.toNat
  elemW := elemExtent (c.isBlockCompressed d.format) d.width.toNat
  elemH := elemExtent (c.isBlockCompressed d.format) d.height.toNat
  bsw := bsw

/-- The checks of LOAD_DESC in their order, and the latch when all pass (40_control_and_descriptor.md
R113, R116, R117, R120, R121). -/
def checkDescriptor (c : Config) (d : DescRegs) : Except ErrorKind Latch :=
  if c.bitsPerPixel d.format ∉ legalBpp then .error .unsupportedFormat
  else if bcFormatOk c d.format = false then .error .unsupportedFormat
  else if 16 ≤ d.tileMode.toNat then .error .reservedTileMode
  else if d.width.toNat = 0 ∨ d.height.toNat = 0 ∨
      d.pitch.toNat < elemExtent (c.isBlockCompressed d.format) d.width.toNat then
    .error .descriptorInvalid
  else
    match bankSwappedWidth c d.tileMode.toNat (c.bitsPerPixel d.format) d.pitch.toNat with
    | .error e => .error e
    | .ok bsw => .ok (latchOf c d bsw)

/-- `NOP` (40_control_and_descriptor.md R111). -/
def execNop (s : State) : Host.Outcome State Fault Refusal := .next s

/-- `CLEAR_STATUS` (40_control_and_descriptor.md R112). -/
def execClearStatus (s : State) : Host.Outcome State Fault Refusal := .next s.acknowledge

/-- `LOAD_DESC` (40_control_and_descriptor.md R113, R122, R123). -/
def execLoadDesc (s : State) : Host.Outcome State Fault Refusal :=
  match checkDescriptor s.cfg s.desc with
  | .ok l => .next (s.commit l)
  | .error e => .next (s.dropLatch.raise e)

/-- The class word of FMT_LOOKUP (40_control_and_descriptor.md R124). -/
def classWord (c : Config) (f : Word) : Nat :=
  (if c.isBlockCompressed f then 1 else 0) +
    2 * (if c.isBlockCompressed f then classNumber (c.classOf f) else 0)

/-- `FMT_LOOKUP` (40_control_and_descriptor.md R124): reads the live `DESC_FORMAT`. -/
def execFmtLookup (s : State) : Host.Outcome State Fault Refusal :=
  .next ((s.setRes0 (s.cfg.bitsPerPixel s.desc.format)).setRes1 (classWord s.cfg s.desc.format))

end Sys2Proof.Machine
end

