-- ==== Sys2Proof/Machine/Resolver.lean ====
section
/-! DEFINITION. The address resolver and swizzle network (43_address_resolver.md): the pixel index, the
three address classes, the range checks, and the commands PIXIDX, RESOLVE and FETCH. -/

namespace Sys2Proof.Machine

/-- The row of `PIXEL_BIT_TABLE` for a bpp: `bppClass` (43_address_resolver.md R175, R177). -/
def pixelRowFor (t : PixelBitTable) (bpp : Nat) : PixelRow :=
  if bpp = 8 then t.c8
  else if bpp = 16 then t.c16
  else if bpp = 32 ∨ bpp = 96 then t.c32
  else if bpp = 64 then t.c64
  else if bpp = 128 then t.c128
  else t.cOther

/-- The depth coordinate, 0 in every computation (43_address_resolver.md R178). -/
def depthZ : Nat := 0

/-- The six low bits of a pixel index (43_address_resolver.md R175). -/
def rowIndex (r : PixelRow) (x y : Nat) : Nat :=
  coordBitValue x y r.s0 + 2 * coordBitValue x y r.s1 + 4 * coordBitValue x y r.s2 +
    8 * coordBitValue x y r.s3 + 16 * coordBitValue x y r.s4 + 32 * coordBitValue x y r.s5

/-- `pixelIndex(x, y, bpp, m)` (43_address_resolver.md R175). -/
def pixelIndex (c : Config) (x y bpp m : Nat) : Nat :=
  let bit6 := if 1 < thickness m then bitAt depthZ 0 else 0
  let bit7 := if 1 < thickness m then bitAt depthZ 1 else 0
  let bit8 := if thickness m = 8 then bitAt depthZ 2 else 0
  rowIndex (pixelRowFor c.pixelBits bpp) x y + 64 * bit6 + 128 * bit7 + 256 * bit8

/-- The bytes of a micro-tile of thickness `th` (43_address_resolver.md R173, R184). -/
def microTileBytes (th bpp : Nat) : Nat := ceilDiv (64 * th * bpp) 8

/-- `linearAddr(x, y)` (43_address_resolver.md R172). -/
def linearAddr (l : Latch) (x y : Nat) : Nat := ((y * l.pitch.toNat + x) * l.bpp) / 8

/-- `elemOffset(x, y)`, the byte offset of the element inside its micro-tile (43_address_resolver.md
R179); the last term of `microAddr` (R173) is the same. -/
def elemOffset (c : Config) (l : Latch) (x y : Nat) : Nat :=
  (l.bpp * pixelIndex c x y l.bpp l.mode) >>> 3

/-- `microAddr(x, y)` (43_address_resolver.md R173). -/
def microAddr (c : Config) (l : Latch) (x y : Nat) : Nat :=
  let th := if l.mode = 3 then 4 else 1
  let microTilesPerRow := l.pitch.toNat >>> 3
  microTileBytes th l.bpp * ((x >>> 3) + (y >>> 3) * microTilesPerRow) + elemOffset c l x y

/-- `splitCheck(th)`: the access is refused (43_address_resolver.md R184). -/
def splitRefused (c : Config) (l : Latch) : Bool :=
  decide (c.splitSize < microTileBytes (thickness l.mode) l.bpp) && c.slicePolicy == .refuse

/-- `swizzledPipeBank(x, y)` (43_address_resolver.md R180): the pipe and the bank. -/
def swizzledPipeBank (c : Config) (l : Latch) (x y : Nat) : Nat × Nat :=
  let swz := l.pipeSwizzle.toNat + c.pipes * l.bankSwizzle.toNat
  let bankPipe := ((pipeIndex x y + c.pipes * bankIndex c x y) ^^^ swz) % (c.pipes * c.banks)
  (bankPipe % c.pipes, bankPipe / c.pipes)

/-- `macroTilePitch` of `macroTileDims(m)` (43_address_resolver.md R181). -/
def macroTilePitch (c : Config) (m : Nat) : Nat := (8 * c.banks) / aspect m

/-- `macroTileHeight` of `macroTileDims(m)` (43_address_resolver.md R181). -/
def macroTileHeight (c : Config) (m : Nat) : Nat := 8 * c.pipes * aspect m

/-- `macroTileOffset(x, y, th, mtp, mth)` (43_address_resolver.md R182). -/
def macroTileOffset (c : Config) (l : Latch) (x y : Nat) : Nat :=
  let mtp := macroTilePitch c l.mode
  let mth := macroTileHeight c l.mode
  ceilDiv (thickness l.mode * l.bpp * mth * mtp) 8 * ((x / mtp) + (l.pitch.toNat / mtp) * (y / mth))

/-- `bankSwap(bank, x, mtp)` (43_address_resolver.md R183). -/
def bankSwap (c : Config) (l : Latch) (bank x : Nat) : Except ErrorKind Nat :=
  if isBankSwapped l.mode then
    if l.bsw = 0 then .error .arithmeticFault
    else
      let mtp := macroTilePitch c l.mode
      let swapIndex := (mtp * (x / mtp)) / l.bsw
      .ok (bank ^^^ bankSwapOrder.getD (swapIndex &&& (c.banks - 1)) 0)
  else .ok bank

/-- `assemble(elem, mto, pipe, bank)` (43_address_resolver.md R185). -/
def assemble (c : Config) (elem mto pipe bank : Nat) : Nat :=
  let total := elem + (mto >>> c.numSwizzleBits)
  let offsetLow := total &&& (2 ^ c.numGroupBits - 1)
  let offsetHigh := (total - offsetLow) <<< c.numSwizzleBits
  offsetHigh ||| (bank <<< (c.numPipeBits + c.numGroupBits)) ||| (pipe <<< c.numGroupBits) ||| offsetLow

/-- `macroAddr(x, y)` (43_address_resolver.md R174). -/
def macroAddr (c : Config) (l : Latch) (x y : Nat) : Except ErrorKind Nat :=
  if splitRefused c l then .error .splitAmbiguous
  else
    let pb := swizzledPipeBank c l x y
    match bankSwap c l pb.2 x with
    | .error e => .error e
    | .ok bank => .ok (assemble c (elemOffset c l x y) (macroTileOffset c l x y) pb.1 bank)

/-- `resolveAddr(x, y)`: the dispatch on the latched class (43_address_resolver.md R187). -/
def resolveAddr (c : Config) (l : Latch) (x y : Nat) : Except ErrorKind Nat :=
  match l.tileClass with
  | .linear => .ok (linearAddr l x y)
  | .micro => .ok (microAddr c l x y)
  | .macroTiled => macroAddr c l x y

/-- The coordinate is inside the surface (43_address_resolver.md R171). -/
def coordInRange (l : Latch) (x y : Nat) : Bool := x < l.elemW && y < l.elemH

/-- The access leaves the source buffer (43_address_resolver.md R186). -/
def addressOutOfRange (l : Latch) (addr : Nat) : Bool := l.dataSize.toNat < addr + l.span

/-- The common part of RESOLVE, FETCH and FETCH_DECODE once a descriptor is loaded: the coordinate check,
then the address (43_address_resolver.md R170, R195, 44_block_decoder.md R221). -/
def resolveElement (s : State) : Except ErrorKind Nat :=
  if coordInRange s.lat s.x s.y then resolveAddr s.cfg s.lat s.x s.y
  else .error .coordinateOutOfRange

/-- The common part of FETCH and FETCH_DECODE once the address is known: `RES0` receives it, and the
block registers the element's bytes, or zeros with the flag when the span leaves the buffer
(43_address_resolver.md R195). -/
def State.fetchElement (s : State) (addr : Nat) : State :=
  if addressOutOfRange s.lat addr then ((s.setRes0 addr).setBlk (BlockRegs.ofBytes [])).flagOutOfRange
  else (s.setRes0 addr).setBlk (BlockRegs.ofBytes (s.src.readSpan addr s.lat.span))

/-- `PIXIDX` (43_address_resolver.md R176). -/
def execPixidx (s : State) : Host.Outcome State Fault Refusal :=
  .next (if s.descValid then s.setRes0 (pixelIndex s.cfg s.x s.y s.lat.bpp s.lat.mode)
    else s.raise .descriptorNotLoaded)

/-- `RESOLVE` (43_address_resolver.md R170). -/
def execResolve (s : State) : Host.Outcome State Fault Refusal :=
  if s.descValid then
    match resolveElement s with
    | .error e => .next (s.raise e)
    | .ok addr =>
      .next (if addressOutOfRange s.lat addr then (s.setRes0 addr).flagOutOfRange else s.setRes0 addr)
  else .next (s.raise .descriptorNotLoaded)

/-- `FETCH` (43_address_resolver.md R195). -/
def execFetch (s : State) : Host.Outcome State Fault Refusal :=
  if s.descValid then
    match resolveElement s with
    | .error e => .next (s.raise e)
    | .ok addr => .next (s.fetchElement addr)
  else .next (s.raise .descriptorNotLoaded)

end Sys2Proof.Machine
end

