-- ==== Sys2Proof/Machine/Decoder.lean ====
section
/-! DEFINITION. The block-compression texel decoder (44_block_decoder.md): the block layout, the colour and
alpha palettes, the packing, and the commands DECODE and FETCH_DECODE. -/

namespace Sys2Proof.Machine

/-- A colour, one number a channel. -/
structure Rgb where
  r : Nat
  g : Nat
  b : Nat
  deriving DecidableEq, Repr

/-- Where the colour part of a block starts: `cb` (44_block_decoder.md R211). -/
def colourBase : BcClass → Nat
  | .bc1 => 0
  | .bc2 => 8
  | .bc3 => 8

/-- `color0` (44_block_decoder.md R211). -/
def color0 (blk : BlockRegs) (cls : BcClass) : Nat := blk.le (colourBase cls) 2

/-- `color1` (44_block_decoder.md R211). -/
def color1 (blk : BlockRegs) (cls : BcClass) : Nat := blk.le (colourBase cls + 2) 2

/-- `codeWord` (44_block_decoder.md R211). -/
def codeWord (blk : BlockRegs) (cls : BcClass) : Nat := blk.le (colourBase cls + 4) 4

/-- The texel index `i = 4*ty + tx` (44_block_decoder.md R212). -/
def texelIndex (tx ty : Nat) : Nat := 4 * ty + tx

/-- The 2-bit colour code of texel `i` (44_block_decoder.md R212). -/
def colourCode (blk : BlockRegs) (cls : BcClass) (i : Nat) : Nat := (codeWord blk cls >>> (2 * i)) &&& 3

/-- `e5(v)` (44_block_decoder.md R213). -/
def expand5 (v : Nat) : Nat := (v <<< 3) ||| (v >>> 2)

/-- `e6(v)` (44_block_decoder.md R213). -/
def expand6 (v : Nat) : Nat := (v <<< 2) ||| (v >>> 4)

/-- `expand(c)`: red `c[15:11]`, green `c[10:5]`, blue `c[4:0]` (44_block_decoder.md R213). -/
def expandColour (c : Nat) : Rgb :=
  ⟨expand5 ((c >>> 11) &&& 31), expand6 ((c >>> 5) &&& 63), expand5 (c &&& 31)⟩

/-- `(p*A + q*B) div d` on each channel; the division truncates (44_block_decoder.md R215). -/
def mixColours (p q d : Nat) (a b : Rgb) : Rgb :=
  ⟨(p * a.r + q * b.r) / d, (p * a.g + q * b.g) / d, (p * a.b + q * b.b) / d⟩

/-- The colour palette and whether the entry is opaque (44_block_decoder.md R214, R215, R222). -/
def paletteColour (code2Four : Bool) (cls : BcClass) (c0 c1 code : Nat) : Rgb × Bool :=
  let four := decide (c1 < c0)
  let a := expandColour c0
  let b := expandColour c1
  if code = 0 then (a, true)
  else if code = 1 then (b, true)
  else if code = 2 then
    (if four || (code2Four && decide (cls ≠ .bc1)) then (mixColours 2 1 3 a b, true)
     else (mixColours 1 1 2 a b, true))
  else
    (if four || decide (cls ≠ .bc1) then (mixColours 1 2 3 a b, true) else (⟨0, 0, 0⟩, false))

/-- The alpha of a BC2 texel (44_block_decoder.md R211, R217). -/
def bc2Alpha (blk : BlockRegs) (i : Nat) : Nat :=
  let v := (blk.le 0 8 >>> (4 * i)) &&& 15
  v ||| (v <<< 4)

/-- `alphaValue(c)`, the BC3 alpha palette (44_block_decoder.md R218). -/
def alphaValue (alpha0 alpha1 c : Nat) : Nat :=
  if c = 0 then alpha0
  else if c = 1 then alpha1
  else if alpha1 < alpha0 then (alpha0 * (8 - c) + alpha1 * (c - 1)) / 7
  else if c = 6 then 0
  else if c = 7 then 255
  else (alpha0 * (6 - c) + alpha1 * (c - 1)) / 5

/-- The BC3 alpha code of texel `i` (44_block_decoder.md R211, R219). -/
def alphaCode (blk : BlockRegs) (i : Nat) : Nat := (blk.le 2 6 >>> (3 * i)) &&& 7

/-- The alpha of a texel whose colour is opaque or not (44_block_decoder.md R216-R220). -/
def texelAlpha (blk : BlockRegs) (cls : BcClass) (i : Nat) (isOpaque : Bool) : Nat :=
  match cls with
  | .bc1 => if isOpaque then 255 else 0
  | .bc2 => bc2Alpha blk i
  | .bc3 => alphaValue (blk.le 0 1) (blk.le 1 1) (alphaCode blk i)

/-- The palette entry of texel `i` of a block (44_block_decoder.md R211-R215). -/
def texelColour (c : Config) (blk : BlockRegs) (cls : BcClass) (i : Nat) : Rgb × Bool :=
  paletteColour c.bc23Code2Four cls (color0 blk cls) (color1 blk cls) (colourCode blk cls i)

/-- R, G, B, A from the low byte up (44_block_decoder.md R220, 20_memory.md R75). -/
def packTexel (rgb : Rgb) (a : Nat) : Nat := rgb.r + 2 ^ 8 * rgb.g + 2 ^ 16 * rgb.b + 2 ^ 24 * a

/-- `decodeTexel(cls, tx, ty)` (44_block_decoder.md R220). -/
def decodeTexel (c : Config) (blk : BlockRegs) (cls : BcClass) (tx ty : Nat) : Nat :=
  let i := texelIndex tx ty
  let col := texelColour c blk cls i
  packTexel col.1 (texelAlpha blk cls i col.2)

/-- The class DECODE uses: `BCSEL`'s, or the latched one (44_block_decoder.md R210). -/
def decodeClass (s : State) : Option BcClass → Except ErrorKind BcClass
  | some cls => .ok cls
  | none =>
    if s.descValid then
      match s.lat.bcClass with
      | some cls => .ok cls
      | none => .error .formatClassMismatch
    else .error .descriptorNotLoaded

/-- `DECODE` (44_block_decoder.md R210). -/
def execDecode (sel : Option BcClass) (s : State) : Host.Outcome State Fault Refusal :=
  match decodeClass s sel with
  | .error e => .next (s.raise e)
  | .ok cls => .next (s.setRes1 (decodeTexel s.cfg s.blk cls s.tx s.ty))

/-- `FETCH_DECODE` (44_block_decoder.md R221). -/
def execFetchDecode (s : State) : Host.Outcome State Fault Refusal :=
  match decodeClass s none with
  | .error e => .next (s.raise e)
  | .ok cls =>
    match resolveElement s with
    | .error e => .next (s.raise e)
    | .ok addr =>
      let t := s.fetchElement addr
      .next (t.setRes1 (if addressOutOfRange s.lat addr then 0
        else decodeTexel s.cfg t.blk cls s.tx s.ty))

end Sys2Proof.Machine
end

