-- ==== Sys2Proof/Machine/Dispatch.lean ====
section
/-! DEFINITION. The meaning of each command (30_encoding.md R94): one arm per constructor. -/

namespace Sys2Proof.Machine

def exec (i : Instr) (s : State) : Host.Outcome State Fault Refusal :=
  match i with
  | .nop => Sys2Proof.Machine.execNop s
  | .loadDesc => Sys2Proof.Machine.execLoadDesc s
  | .clearStatus => Sys2Proof.Machine.execClearStatus s
  | .fmtLookup => Sys2Proof.Machine.execFmtLookup s
  | .pipe => Sys2Proof.Machine.execPipe s
  | .bank => Sys2Proof.Machine.execBank s
  | .rotation => Sys2Proof.Machine.execRotation s
  | .bswidth => Sys2Proof.Machine.execBswidth s
  | .pixidx => Sys2Proof.Machine.execPixidx s
  | .resolve => Sys2Proof.Machine.execResolve s
  | .fetch => Sys2Proof.Machine.execFetch s
  | .decode sel => Sys2Proof.Machine.execDecode sel s
  | .fetchDecode => Sys2Proof.Machine.execFetchDecode s

end Sys2Proof.Machine
end

