-- ==== Sys2Proof/Machine/Access.lean ====
section
/-! DEFINITION. What one action of the host does: a write to `CMD` decodes and executes a command
(10_state.md R33), any other access reads or writes a register, fills the source buffer or resets the
block. -/

namespace Sys2Proof.Machine

/-- A write of `w` to `CMD`: the command it encodes executes to completion (10_state.md R33,
70_reset_and_hazards.md R283); a word that encodes none raises IllegalCommand (60_exceptions.md R258). -/
def runCommand (w : Word) (s : State) : Host.Outcome State Fault Refusal :=
  match decode w with
  | .ok i => exec i s
  | .error _ => .next (s.raise .illegalCommand)

/-- A well-formed host write inside the window (10_state.md R33, R44, R45). -/
def hostWrite (offset : Nat) (v : Word) (s : State) : Host.Outcome State Fault Refusal :=
  match Reg.atOffset offset with
  | some .cmd => runCommand v s
  | some r => .next (s.writeReg r v)
  | none => .next s

/-- The checks on a register access, then the access (20_memory.md R76, 10_state.md R32). -/
def checkedAccess (width offset : Nat) (go : Host.Outcome State Fault Refusal) :
    Host.Outcome State Fault Refusal :=
  if alignedWord width offset = false then .refused (.unalignedAccess width offset)
  else if inWindow offset = false then .fault (.outsideWindow offset)
  else go

/-- One action of the host (20_memory.md R79, R81, 70_reset_and_hazards.md R280). -/
def runHostStep (h : HostStep) (s : State) : Host.Outcome State Fault Refusal :=
  match h with
  | .write width offset v => checkedAccess width offset (hostWrite offset v s)
  | .read width offset => checkedAccess width offset (.next (s.hostRead offset))
  | .setByte addr b => .next (s.hostSetByte addr b)
  | .reset => .next s.resetBlock

/-- The host's next action is taken off the order (20_memory.md R81) and done; with none to do the block
waits (70_reset_and_hazards.md R282). -/
def takeHostStep (s : State) : Host.Outcome State Fault Refusal :=
  match s.pending with
  | [] => .next s
  | h :: rest => runHostStep h { s with pending := rest }

/-- The host's write of a command word becomes its next action. -/
def State.pushCommand (s : State) (w : Word) : State :=
  { s with pending := .write 4 Reg.cmd.offset w :: s.pending }

end Sys2Proof.Machine
end

