-- ==== Sys2Proof/Machine/Step.lean ====
section
/-! DEFINITION. One step: the host's next action. A machine whose parameters are no configuration of the
block has no run (00_scope.md R9). -/

namespace Sys2Proof.Machine

/-- One step of the machine: one action of the host, in the host's order (20_memory.md R81). -/
def step (s : State) : Host.Outcome State Fault Refusal :=
  if s.cfg.Legal then takeHostStep s else .refused .illegalConfiguration

/-- The command word numbered as the opcode table numbers it becomes the host's next action, a write to
`CMD` (10_state.md R33): there is no instruction memory to put it in (R31, notes/assumptions/3.md). -/
def State.withFetchWord (s : State) (nbits w : Nat) : State :=
  s.pushCommand (BitVec.ofNat 32 (w % 2 ^ nbits))

end Sys2Proof.Machine
end

