-- ==== Sys2Proof/Machine/Assembler.lean ====
section
/-! DEFINITION. The host's assembler syntax (30_encoding.md R97-R99): a program is a list of host steps, and
each pseudo-instruction of R98 is the list it expands to. -/

namespace Sys2Proof.Machine

/-- `WR <REG>, <value>` (30_encoding.md R97). -/
def wr (r : Reg) (v : Word) : HostStep := .write 4 r.offset v

/-- `RD <REG>` (30_encoding.md R97). -/
def rd (r : Reg) : HostStep := .read 4 r.offset

/-- A mnemonic: a write of its command word to `CMD` (30_encoding.md R97). `DECODE.BCn` is the mnemonic
of `.decode (some .bcn)`. -/
def issue (i : Instr) : HostStep := wr .cmd (encode i)

/-- The pseudo-instructions of 30_encoding.md R98, and the plain steps of R97. -/
inductive AsmLine where
  | wr (r : Reg) (v : Word)
  | rd (r : Reg)
  | command (i : Instr)
  | setDesc (w h p m s f n : Word)
  | loadDesc (w h p m s f n : Word)
  | setXY (x y : Word)
  | setT (tx ty : BitVec 2)
  | pipe (x y : Word)
  | bank (x y : Word)
  | pixidx (x y : Word)
  | resolve (x y : Word)
  | fetch (x y : Word)
  | decodeBC (cls : BcClass) (tx ty : BitVec 2)
  | fetchDecode (x y : Word) (tx ty : BitVec 2)
  | setBlk (b0 b1 b2 b3 b4 b5 b6 b7 b8 b9 b10 b11 b12 b13 b14 b15 : Byte)
  deriving DecidableEq, Repr

/-- `SETDESC` (30_encoding.md R98). -/
def setDescSteps (w h p m s f n : Word) : List HostStep :=
  [wr .descWidth w, wr .descHeight h, wr .descPitch p, wr .descTileMode m, wr .descSwizzle s,
   wr .descFormat f, wr .descDataSize n]

/-- `SETXY` (30_encoding.md R98). -/
def setXYSteps (x y : Word) : List HostStep := [wr .argX x, wr .argY y]

/-- `SETT` (30_encoding.md R98): `tx + 4*ty`. -/
def setTSteps (tx ty : BitVec 2) : List HostStep := [wr .argT (low32 (tx.toNat + 4 * ty.toNat))]

/-- The expansion of a line (30_encoding.md R97-R99). -/
def AsmLine.expand : AsmLine → List HostStep
  | .wr r v => [Machine.wr r v]
  | .rd r => [Machine.rd r]
  | .command i => [issue i]
  | .setDesc w h p m s f n => setDescSteps w h p m s f n
  | .loadDesc w h p m s f n => setDescSteps w h p m s f n ++ [issue .loadDesc]
  | .setXY x y => setXYSteps x y
  | .setT tx ty => setTSteps tx ty
  | .pipe x y => setXYSteps x y ++ [issue .pipe]
  | .bank x y => setXYSteps x y ++ [issue .bank]
  | .pixidx x y => setXYSteps x y ++ [issue .pixidx]
  | .resolve x y => setXYSteps x y ++ [issue .resolve]
  | .fetch x y => setXYSteps x y ++ [issue .fetch]
  | .decodeBC cls tx ty => setTSteps tx ty ++ [issue (.decode (some cls))]
  | .fetchDecode x y tx ty => setXYSteps x y ++ setTSteps tx ty ++ [issue .fetchDecode]
  | .setBlk b0 b1 b2 b3 b4 b5 b6 b7 b8 b9 b10 b11 b12 b13 b14 b15 =>
    [Machine.wr .blk0 (packBytes b0 b1 b2 b3), Machine.wr .blk1 (packBytes b4 b5 b6 b7),
     Machine.wr .blk2 (packBytes b8 b9 b10 b11), Machine.wr .blk3 (packBytes b12 b13 b14 b15)]

/-- A program as the host's steps (30_encoding.md R97, R99). -/
def assembleProgram (p : List AsmLine) : List HostStep := (p.map AsmLine.expand).flatten

/-- The host does `steps` in order, before anything else it has waiting; the first stop ends it
(20_memory.md R81). -/
def runSteps : List HostStep → State → Host.Outcome State Fault Refusal
  | [], s => .next s
  | h :: rest, s =>
    match step { s with pending := h :: s.pending } with
    | .next t => runSteps rest t
    | .fault r => .fault r
    | .refused r => .refused r

end Sys2Proof.Machine
end

