-- ==== Sys2Proof/Safety.lean ====
section
/-! DEFINITION. What counts as a safe state, in the terms the claims use: the invariant every step keeps,
and the vocabulary of the statements (which commands need a descriptor, which read the source buffer). -/

namespace Sys2Proof.Machine

/-- What LOAD_DESC's checks and its commit leave true of a latched descriptor
(40_control_and_descriptor.md R113-R122). -/
structure Latch.Checked (c : Config) (l : Latch) : Prop where
  bpp_legal : l.bpp ∈ [8, 16, 32, 64, 128]
  bpp_format : l.bpp = c.bitsPerPixel l.format
  class_format : l.bcClass = c.classOf l.format
  class_bpp : ∀ cls, l.bcClass = some cls → l.bpp = bcBits cls
  width_pos : 0 < l.width.toNat
  height_pos : 0 < l.height.toNat
  elemW_eq : l.elemW = elemExtent l.isBC l.width.toNat
  elemH_eq : l.elemH = elemExtent l.isBC l.height.toNat
  pitch_ge : l.elemW ≤ l.pitch.toNat
  tileClass_eq : l.tileClass = tileClassOf l.mode
  bsw_eq : bankSwappedWidth c l.mode l.bpp l.pitch.toNat = .ok l.bsw

/-- The invariant: the parameters are a configuration of the block (00_scope.md R9), the source buffer is
in its canonical form, the latch is empty or checked as `DESC_VALID` says (40_control_and_descriptor.md
R122, R123), and `ERRCODE` is a code of 60_exceptions.md R251, 0 exactly while neither sticky bit is set. -/
structure State.Inv (s : State) : Prop where
  cfg_legal : s.cfg.Legal
  src_wf : Memory.wf s.src
  latch_empty : s.descValid = false → s.lat = Latch.zero
  latch_checked : s.descValid = true → Latch.Checked s.cfg s.lat
  errCode_known : s.errCode.toNat ≤ 0x0A
  errCode_zero : s.errCode = 0 ↔ (s.err = false ∧ s.oor = false)

/-- The commands that read the latched descriptor (40_control_and_descriptor.md R110). -/
def needsDescriptor : List Instr :=
  [.rotation, .bswidth, .pixidx, .resolve, .fetch, .fetchDecode, .decode none]

/-- The commands that read the source buffer (20_memory.md R78). -/
def readsSource : List Instr := [.fetch, .fetchDecode]

/-- A coordinate bit as a bit of the argument registers (00_scope.md R12). -/
def State.coordBit (s : State) : CoordBit → Bool
  | .x0 => s.argX.getLsbD 0
  | .x1 => s.argX.getLsbD 1
  | .x2 => s.argX.getLsbD 2
  | .y0 => s.argY.getLsbD 0
  | .y1 => s.argY.getLsbD 1
  | .y2 => s.argY.getLsbD 2

/-- Two spans of `n` bytes share no address. -/
def spansApart (a b n : Nat) : Prop := a + n ≤ b ∨ b + n ≤ a

end Sys2Proof.Machine
end

