-- ==== Sys2Proof/Certificates/Slice0/Obligations.lean ====
section
/-! DEFINITION. The statements for the provers, each a `def Obligations.<Name> : Prop`. Each docstring names
the rule of spec/ it formalises; where it says 'derived', the spec's sections it rests on. -/

open Sys2Proof Sys2Proof.Machine

/-! ## The command word (30_encoding.md) -/

/-- Derived from R90, R94, R96: the encoder and the decoder are inverse, on every well-formed command and
on every one of the 2^32 words, so no word but a command's own decodes to it. -/
def Obligations.EncodeAndDecodeAreInverse : Prop :=
  (∀ i : Instr, i.wellFormed = true → decode (encode i) = .ok i) ∧
  (∀ (w : Word) (i : Instr), decode w = .ok i → w = encode i)

/-- Derived from R93-R96: decoding is total; a word is a command exactly when `CMD[31:10]` is 0, its
`OPCODE` is in the map and `BCSEL` is 0 or the opcode is DECODE's, and then it is the command with those
fields. -/
def Obligations.DecodeAcceptsExactlyTheMap : Prop :=
  ∀ w : Word,
    (∀ i : Instr, decode w = .ok i ↔
      (w.extractLsb' 10 22 = 0 ∧ w.extractLsb' 0 8 = i.opcode ∧ w.extractLsb' 8 2 = i.bcsel)) ∧
    ((∃ i : Instr, decode w = .ok i) ↔
      (w.toNat < 2 ^ 10 ∧
        w.toNat % 256 ∈ [0x00, 0x01, 0x02, 0x03, 0x10, 0x11, 0x12, 0x13, 0x20, 0x21, 0x22, 0x30, 0x31] ∧
        (w.toNat / 256 = 0 ∨ w.toNat % 256 = 0x30)))

/-- Derived from R90, R94, R97: words written out from the spec's encodings decode to their commands. -/
def Obligations.SpecWordsDecode : Prop :=
  decode 0x00000000#32 = .ok .nop ∧ decode 0x00000001#32 = .ok .loadDesc ∧
  decode 0x00000012#32 = .ok .rotation ∧ decode 0x00000022#32 = .ok .fetch ∧
  decode 0x00000030#32 = .ok (.decode none) ∧ decode 0x00000130#32 = .ok (.decode (some .bc1)) ∧
  decode 0x00000230#32 = .ok (.decode (some .bc2)) ∧ decode 0x00000330#32 = .ok (.decode (some .bc3)) ∧
  decode 0x00000004#32 = .error .reservedOpcode ∧ decode 0x00000110#32 = .error .strayBcsel ∧
  decode 0x00000400#32 = .error .reservedBits

/-! ## The host's accesses (10_state.md, 20_memory.md, 70_reset_and_hazards.md) -/

/-- Derived from R33, R81, R283: when the host's next action writes to `CMD` a word that decodes to a
command, the step is `exec` of that command at the state with the action taken off the order. The
placing of a table word as the host's next write is the model's own (notes/assumptions/3.md). -/
def Obligations.StepRunsDecodedCommand : Prop :=
  (∀ (s : State) (rest : List HostStep) (w : Word) (i : Instr), s.cfg.Legal →
    s.pending = .write 4 0 w :: rest → decode w = .ok i →
    step s = exec i { s with pending := rest }) ∧
  (∀ (s : State) (w : Nat) (i : Instr), s.cfg.Legal → decodeTableWord 32 w = some i →
    step (s.withFetchWord 32 w) = exec i s)

/-- R93 and R95: a write to `CMD` of a word with a nonzero reserved bit, a stray `BCSEL` or a reserved
opcode raises IllegalCommand (code 7) and does nothing else. -/
def Obligations.IllegalCommandWriteRaises : Prop :=
  ∀ (s : State) (rest : List HostStep) (w : Word), s.cfg.Legal → s.pending = .write 4 0 w :: rest →
    (w.extractLsb' 10 22 ≠ 0 ∨ (w.extractLsb' 8 2 ≠ 0 ∧ w.extractLsb' 0 8 ≠ 0x30#8) ∨
      (∃ op, op = (w.extractLsb' 0 8).toNat ∧
        ((0x04 ≤ op ∧ op ≤ 0x0F) ∨ (0x14 ≤ op ∧ op ≤ 0x1F) ∨ (0x23 ≤ op ∧ op ≤ 0x2F) ∨
          (0x32 ≤ op ∧ op ≤ 0xFF)))) →
    step s = .next { s with pending := rest, err := true, errCode := 0x07#8 }

/-- Derived from R32, R33, R43, R44, R79: what a host read of each offset of the window returns, with no
side effect on the block; `reads` is the model's record of what the host has read (notes/assumptions/2.md).
A size shows as `parameterWord`: the size itself where 32 bits hold it, else a free value
(notes/assumptions/6.md), for every value it may have. -/
def Obligations.HostReadReturnsRegister : Prop :=
  ∀ (s : State) (rest : List HostStep) (offset : Nat) (v : Word), s.cfg.Legal →
    s.pending = .read 4 offset :: rest →
    (offset, v) ∈ [(0x00, 0#32), (0x04, s.statusWord), (0x08, s.desc.width), (0x0C, s.desc.height),
      (0x10, s.desc.pitch), (0x14, s.desc.tileMode.setWidth 32), (0x18, s.desc.swizzle),
      (0x1C, s.desc.format), (0x20, s.desc.dataSize), (0x24, s.argX), (0x28, s.argY),
      (0x2C, s.argT.setWidth 32), (0x30, s.blk.b0), (0x34, s.blk.b1), (0x38, s.blk.b2), (0x3C, s.blk.b3),
      (0x40, s.res0), (0x44, s.res1), (0x48, 0#32), (0x4C, 0#32), (0x50, 0#32), (0x54, 0#32),
      (0x58, 0#32), (0x5C, 0#32), (0x60, BitVec.ofNat 32 s.cfg.pipes),
      (0x64, BitVec.ofNat 32 s.cfg.banks), (0x68, parameterWord .cfgGroupSize s.cfg.groupSize),
      (0x6C, parameterWord .cfgRowSize s.cfg.rowSize), (0x70, parameterWord .cfgSwapSize s.cfg.swapSize),
      (0x74, parameterWord .cfgSplitSize s.cfg.splitSize), (0x78, optionsWord s.cfg), (0x7C, 0#32)] →
    step s = .next { s with pending := rest, reads := v :: s.reads }

/-- Derived from R35-R45, R74: a host write to a RW register is read back (with the reserved bits 0),
changes what no other offset reads as, and reaches neither the latch nor the buffer; a write to a
read-only register or a reserved offset changes nothing. -/
def Obligations.HostWriteStoresRegister : Prop :=
  ∀ (s : State) (rest : List HostStep) (offset : Nat) (v : Word), s.cfg.Legal →
    s.pending = .write 4 offset v :: rest →
    (∀ mask : Word,
      (offset, mask) ∈ [(0x08, 0xFFFFFFFF#32), (0x0C, 0xFFFFFFFF#32), (0x10, 0xFFFFFFFF#32),
        (0x14, 0x1F#32), (0x18, 0xFFFFFFFF#32), (0x1C, 0xFFFFFFFF#32), (0x20, 0xFFFFFFFF#32),
        (0x24, 0xFFFFFFFF#32), (0x28, 0xFFFFFFFF#32), (0x2C, 0xF#32), (0x30, 0xFFFFFFFF#32),
        (0x34, 0xFFFFFFFF#32), (0x38, 0xFFFFFFFF#32), (0x3C, 0xFFFFFFFF#32)] →
      ∃ t, step s = .next t ∧ t.readOffset offset = v &&& mask ∧
        (∀ o, o ≠ offset → t.readOffset o = s.readOffset o) ∧
        t.descValid = s.descValid ∧ t.lat = s.lat ∧ t.cfg = s.cfg ∧
        (∀ a, t.src.read a = s.src.read a) ∧ t.pending = rest ∧ t.reads = s.reads) ∧
    (offset ∈ [0x04, 0x40, 0x44, 0x48, 0x4C, 0x50, 0x54, 0x58, 0x5C, 0x60, 0x64, 0x68, 0x6C, 0x70, 0x74,
        0x78, 0x7C] →
      step s = .next { s with pending := rest })

/-- R76: a register access of another width than 32 bits, or at an unaligned offset, is refused. -/
def Obligations.UnalignedAccessRefused : Prop :=
  ∀ (s : State) (rest : List HostStep) (width offset : Nat), s.cfg.Legal →
    (width ≠ 4 ∨ offset % 4 ≠ 0) →
    (s.pending = .read width offset :: rest ∨ ∃ v, s.pending = .write width offset v :: rest) →
    step s = .refused (.unalignedAccess width offset)

/-- Derived from R34: the fields of `STATUS`, and that the latched views read 0 while `DESC_VALID` is 0. -/
def Obligations.StatusWordLayout : Prop :=
  ∀ s : State,
    s.statusWord.getLsbD 0 = s.descValid ∧ s.statusWord.getLsbD 1 = s.oor ∧
    s.statusWord.getLsbD 2 = s.err ∧ s.statusWord.extractLsb' 3 5 = 0 ∧
    s.statusWord.extractLsb' 8 8 = s.errCode ∧
    (s.descValid = true →
      (s.statusWord.extractLsb' 16 2).toNat = tileClassNumber s.lat.tileClass ∧
      s.statusWord.getLsbD 18 = s.lat.isBC ∧
      (s.statusWord.extractLsb' 19 2).toNat = classNumber s.lat.bcClass ∧
      s.statusWord.extractLsb' 21 3 = 0 ∧
      (s.lat.bpp < 256 → (s.statusWord.extractLsb' 24 8).toNat = s.lat.bpp)) ∧
    (s.descValid = false → s.statusWord.extractLsb' 16 16 = 0)

/-- Derived from R43, R6, R8: the configuration registers read the parameters, ignore host writes, and no
step changes them. A size is read whole where the 32 bits of its register hold it; the spec states no
reading of a larger one (notes/assumptions/6.md). -/
def Obligations.ConfigurationRegistersAreFixed : Prop :=
  (∀ s t : State, step s = .next t → t.cfg = s.cfg) ∧
  (∀ s : State, s.cfg.Legal →
    (s.readOffset 0x60).toNat = s.cfg.pipes ∧ (s.readOffset 0x64).toNat = s.cfg.banks ∧
    (s.cfg.groupSize < 2 ^ 32 → (s.readOffset 0x68).toNat = s.cfg.groupSize) ∧
    (s.cfg.rowSize < 2 ^ 32 → (s.readOffset 0x6C).toNat = s.cfg.rowSize) ∧
    (s.cfg.swapSize < 2 ^ 32 → (s.readOffset 0x70).toNat = s.cfg.swapSize) ∧
    (s.cfg.splitSize < 2 ^ 32 → (s.readOffset 0x74).toNat = s.cfg.splitSize) ∧
    (s.readOffset 0x78).getLsbD 0 = (s.cfg.slicePolicy == .noSlice) ∧
    (s.readOffset 0x78).getLsbD 1 = s.cfg.bc23Code2Four ∧
    (s.readOffset 0x78).extractLsb' 2 30 = 0 ∧
    ∀ (rest : List HostStep) (offset : Nat) (v : Word),
      offset ∈ [0x60, 0x64, 0x68, 0x6C, 0x70, 0x74, 0x78] →
      s.pending = .write 4 offset v :: rest → step s = .next { s with pending := rest })

/-- Derived from R53, R55, R281: after reset every register of the window below the configuration registers
reads 0, the configuration registers read as before, every field of the latch is 0 and the flags are clear.
That the host's buffer, order and reads survive the reset is the model's reading (notes/assumptions/2.md and
4.md). -/
def Obligations.ResetClearsEveryRegister : Prop :=
  ∀ (s : State) (rest : List HostStep), s.cfg.Legal → s.pending = .reset :: rest →
    ∃ t, step s = .next t ∧ (∀ o, o < 0x60 → t.readOffset o = 0) ∧
      (∀ o, 0x60 ≤ o → t.readOffset o = s.readOffset o) ∧ t.cfg = s.cfg ∧
      t.descValid = false ∧ t.oor = false ∧ t.err = false ∧ t.errCode = 0 ∧
      t.desc.swizzle = 0 ∧ t.res0 = 0 ∧ t.res1 = 0 ∧
      t.lat = { width := 0, height := 0, pitch := 0, tileMode := 0, pipeSwizzle := 0, bankSwizzle := 0,
                format := 0, dataSize := 0, bpp := 0, bcClass := none, tileClass := .linear,
                elemW := 0, elemH := 0, bsw := 0 } ∧
      t.src = s.src ∧ t.pending = rest ∧ t.reads = s.reads

/-! ## The invariant -/

/-- Derived from R55, R281, R6: the state after reset meets the invariant. -/
def Obligations.ResetMeetsInvariant : Prop := State.reset.Inv

/-- Derived from R43, R113, R122, R123, R251: every step, a command or any other action of the host, keeps
the invariant. -/
def Obligations.StepKeepsInvariant : Prop :=
  ∀ s t : State, s.Inv → step s = .next t → t.Inv

/-! ## Rules over all commands (10_state.md, 20_memory.md, 60_exceptions.md) -/

/-- Derived from R39-R42, R45, R47, R78: what a command never changes. No command writes a descriptor or
argument register, a parameter or a byte of the source buffer; only LOAD_DESC writes the latch; only
the fetches write `BLK0`-`BLK3`; only CLEAR_STATUS clears a sticky flag. -/
def Obligations.CommandFrame : Prop :=
  ∀ (i : Instr) (s t : State), exec i s = .next t →
    t.cfg = s.cfg ∧ t.desc = s.desc ∧ t.argX = s.argX ∧ t.argY = s.argY ∧ t.argT = s.argT ∧
    (∀ a, t.src.read a = s.src.read a) ∧ t.src = s.src ∧ t.pending = s.pending ∧ t.reads = s.reads ∧
    (i ≠ .loadDesc → t.lat = s.lat ∧ t.descValid = s.descValid) ∧
    (i ∉ [.fetch, .fetchDecode] → t.blk = s.blk) ∧
    (i ∈ [.nop, .loadDesc, .clearStatus] ∨ (∃ sel, i = .decode sel) → t.res0 = s.res0) ∧
    (i ∉ [.fmtLookup, .fetchDecode] ∧ (∀ sel, i ≠ .decode sel) → t.res1 = s.res1) ∧
    (i ≠ .clearStatus → (s.err = true → t.err = true) ∧ (s.oor = true → t.oor = true))

/-- R262: a command that raises a non-recoverable error (it sets `ERR` where it was clear) writes `ERR`
and `ERRCODE` and no other state; a failed LOAD_DESC also zeroes the latch and `DESC_VALID`. -/
def Obligations.RaiseWritesOnlyTheError : Prop :=
  ∀ (i : Instr) (s t : State), s.err = false → exec i s = .next t → t.err = true →
    (i ≠ .loadDesc → t = { s with err := true, errCode := t.errCode } ∧
      t.errCode ∈ [0x04#8, 0x05#8, 0x08#8, 0x09#8, 0x0A#8]) ∧
    (i = .loadDesc → t = { s with lat := Latch.zero, descValid := false, err := true,
                                  errCode := t.errCode } ∧
      t.errCode ∈ [0x01#8, 0x02#8, 0x03#8, 0x09#8])

/-- Derived from R47, R257, R263: `OOR` is set only by a command that flags AddressOutOfRange: RESOLVE,
FETCH or FETCH_DECODE, which leaves `ERR` as it was, records code 6, returns the address, and leaves
zeros where it would have left the element. -/
def Obligations.FlagOnlyOutOfRange : Prop :=
  ∀ (i : Instr) (s t : State), s.oor = false → exec i s = .next t → t.oor = true →
    i ∈ [.resolve, .fetch, .fetchDecode] ∧ t.errCode = 0x06#8 ∧ t.err = s.err ∧
    (∃ addr, resolveAddr s.cfg s.lat s.argX.toNat s.argY.toNat = .ok addr ∧
      s.lat.dataSize.toNat < addr + s.lat.bpp / 8 ∧ t.res0 = BitVec.ofNat 32 addr) ∧
    (i ≠ .resolve → t.blk = ⟨0, 0, 0, 0⟩) ∧ (i = .fetchDecode → t.res1 = 0)

/-- R255: every command that reads the latched descriptor raises DescriptorNotLoaded (code 4) while
`DESC_VALID` is 0, before any other condition. -/
def Obligations.DescriptorNotLoadedRaised : Prop :=
  ∀ (i : Instr) (s : State), i ∈ needsDescriptor → s.descValid = false →
    exec i s = .next { s with err := true, errCode := 0x04#8 }

/-- Derived from R110: the commands without the descriptor precondition do the same whatever the latch and
`DESC_VALID` hold, which they leave alone (LOAD_DESC, which writes them, excepted). -/
def Obligations.LatchFreeCommandsIgnoreTheLatch : Prop :=
  ∀ (i : Instr) (s t : State) (l : Latch) (v : Bool), i ∉ needsDescriptor → i ≠ .loadDesc →
    exec i s = .next t → exec i { s with lat := l, descValid := v } = .next { t with lat := l, descValid := v }

/-- R171: RESOLVE, FETCH and FETCH_DECODE raise CoordinateOutOfRange (code 5) for a coordinate outside the
surface's elements. -/
def Obligations.CoordinateOutOfRangeRaised : Prop :=
  ∀ (i : Instr) (s : State), i ∈ [.resolve, .fetch, .fetchDecode] → s.descValid = true →
    (i = .fetchDecode → s.lat.isBC = true) →
    (s.lat.elemW ≤ s.argX.toNat ∨ s.lat.elemH ≤ s.argY.toNat) →
    exec i s = .next { s with err := true, errCode := 0x05#8 }

/-- Derived from R71, R72, R78: no command's result depends on a byte at or above `lat.dataSize`, and only
FETCH and FETCH_DECODE depend on the source buffer at all. -/
def Obligations.ReadsOnlyBelowDataSize : Prop :=
  ∀ (i : Instr) (s t : State) (m : Memory), exec i s = .next t →
    (i ∈ readsSource → ∀ a, a < s.lat.dataSize.toNat → m.read a = s.src.read a) →
    exec i { s with src := m } = .next { t with src := m }

/-- Derived from R286: a write to a `DESC_*` register after LOAD_DESC changes what no command does but the
next LOAD_DESC, and FMT_LOOKUP, which reads the live `DESC_FORMAT`. -/
def Obligations.LiveDescriptorHasNoEffect : Prop :=
  ∀ (i : Instr) (s t : State) (d : DescRegs), i ≠ .loadDesc →
    (i = .fmtLookup → d.format = s.desc.format) →
    exec i s = .next t → exec i { s with desc := d } = .next { t with desc := d }

/-! ## Control, descriptor and format commands (40_control_and_descriptor.md) -/

/-- R111: NOP changes nothing, and a word with OPCODE 0 and any nonzero bit in `CMD[31:8]` is no command. -/
def Obligations.NopChangesNothing : Prop :=
  (∀ s : State, exec .nop s = .next s) ∧
  (∀ w : Word, w.extractLsb' 0 8 = 0 → w.extractLsb' 8 24 ≠ 0 → ∃ e, decode w = .error e)

/-- R112: CLEAR_STATUS clears `OOR`, `ERR` and `ERRCODE` and leaves every other bit of `STATUS`, and every
other register, as it was. -/
def Obligations.ClearStatusClearsErrors : Prop :=
  ∀ s : State, ∃ t, exec .clearStatus s = .next t ∧
    t = { s with oor := false, err := false, errCode := 0 } ∧
    t.statusWord = s.statusWord &&& 0xFFFF00F9#32

/-- R124: FMT_LOOKUP returns the table entry of the live format code in `RES0` and its class word in
`RES1`; membership is tested on the whole code, and the class word of a code outside `BC_SET` is 0. -/
def Obligations.FmtLookupResult : Prop :=
  ∀ s : State, s.cfg.Legal →
    ∃ v : Word, exec .fmtLookup s =
        .next { s with res0 := BitVec.ofNat 32 (s.cfg.formatBpp.getD (s.desc.format.toNat % 64) 0),
                       res1 := v } ∧
      ((∀ cls, (s.desc.format, cls) ∉ s.cfg.bcSet) → v = 0) ∧
      (∀ cls, (s.desc.format, cls) ∈ s.cfg.bcSet → v.toNat = 1 + 2 * classNumber cls)

/-- R122: a LOAD_DESC whose checks pass commits the latch and sets `DESC_VALID`, and writes nothing else.
`cls` is the class of the code: none for a code outside `BC_SET`. -/
def Obligations.LoadDescCommits : Prop :=
  ∀ (s : State) (cls : Option BcClass) (bpp bsw eW eH : Nat), s.cfg.Legal →
    bpp = s.cfg.formatBpp.getD (s.desc.format.toNat % 64) 0 → bpp ∈ [8, 16, 32, 64, 128] →
    ((cls = none ∧ (∀ k, (s.desc.format, k) ∉ s.cfg.bcSet) ∧
        eW = s.desc.width.toNat ∧ eH = s.desc.height.toNat) ∨
      (∃ k, cls = some k ∧ (s.desc.format, some k) ∈ s.cfg.bcSet ∧ bpp = bcBits k ∧
        eW = (s.desc.width.toNat + 3) / 4 ∧ eH = (s.desc.height.toNat + 3) / 4)) →
    s.desc.tileMode.toNat < 16 → 0 < s.desc.width.toNat → 0 < s.desc.height.toNat →
    eW ≤ s.desc.pitch.toNat →
    bankSwappedWidth s.cfg s.desc.tileMode.toNat bpp s.desc.pitch.toNat = .ok bsw →
    exec .loadDesc s = .next { s with
      descValid := true
      lat := { width := s.desc.width, height := s.desc.height, pitch := s.desc.pitch,
               tileMode := s.desc.tileMode.extractLsb' 0 4,
               pipeSwizzle := s.desc.swizzle.extractLsb' 8 1,
               bankSwizzle := s.desc.swizzle.extractLsb' 9 2,
               format := s.desc.format, dataSize := s.desc.dataSize, bpp := bpp, bcClass := cls,
               tileClass := if s.desc.tileMode.toNat ≤ 1 then .linear
                 else if s.desc.tileMode.toNat ≤ 3 then .micro else .macroTiled,
               elemW := eW, elemH := eH, bsw := bsw } }

/-- Derived from R113, R116, R123, R147, R259: a LOAD_DESC that fails a check drops the latch and
`DESC_VALID` and records the error of the FIRST check that fails, in the order of R113: the format, the tile
mode, the dimensions. The last clause, that a LOAD_DESC which passes these succeeds, is the model's
deduction: R113 names ArithmeticFault as a fourth outcome, but at a legal bpp (R116) no divisor in the steps
of R147 is 0, in any legal configuration; the spec marks some of those steps as general knowledge
(notes/assumptions/12.md). -/
def Obligations.LoadDescRefusesInOrder : Prop :=
  ∀ (s : State) (bpp eW : Nat) (badFormat badDims : Prop), s.cfg.Legal →
    bpp = s.cfg.formatBpp.getD (s.desc.format.toNat % 64) 0 →
    ((∃ k, (s.desc.format, k) ∈ s.cfg.bcSet) → eW = (s.desc.width.toNat + 3) / 4) →
    ((∀ k, (s.desc.format, k) ∉ s.cfg.bcSet) → eW = s.desc.width.toNat) →
    (badFormat ↔ (bpp ∉ [8, 16, 32, 64, 128] ∨ (s.desc.format, none) ∈ s.cfg.bcSet ∨
      ∃ k, (s.desc.format, some k) ∈ s.cfg.bcSet ∧ bpp ≠ bcBits k)) →
    (badDims ↔ (s.desc.width = 0 ∨ s.desc.height = 0 ∨ s.desc.pitch.toNat < eW)) →
    (badFormat → exec .loadDesc s =
      .next { s with lat := Latch.zero, descValid := false, err := true, errCode := 0x01#8 }) ∧
    (¬ badFormat → 16 ≤ s.desc.tileMode.toNat → exec .loadDesc s =
      .next { s with lat := Latch.zero, descValid := false, err := true, errCode := 0x02#8 }) ∧
    (¬ badFormat → s.desc.tileMode.toNat < 16 → badDims → exec .loadDesc s =
      .next { s with lat := Latch.zero, descValid := false, err := true, errCode := 0x03#8 }) ∧
    (¬ badFormat → s.desc.tileMode.toNat < 16 → ¬ badDims → ∃ l, exec .loadDesc s =
      .next { s with lat := l, descValid := true })

/-! ## Bank and pipe (42_bank_pipe.md) -/

/-- R140 and R143: PIPE returns bit 3 of `y` XOR bit 3 of `x`, for any coordinates, with no descriptor. -/
def Obligations.PipeCommandResult : Prop :=
  ∀ s : State, exec .pipe s =
    .next { s with res0 := if s.argX.getLsbD 3 = s.argY.getLsbD 3 then 0#32 else 1#32 }

/-- R141: with 4 banks BANK returns `b0 + 2*b1`, `b0` bit 5 of `y` XOR bit 3 of `x` and `b1` bit 4 of `y`
XOR bit 4 of `x`. -/
def Obligations.BankCommandFourBanks : Prop :=
  ∀ s : State, s.cfg.Legal → s.cfg.banks = 4 →
    exec .bank s = .next { s with
      res0 := BitVec.ofNat 32 ((s.argY.getLsbD 5 ^^ s.argX.getLsbD 3).toNat +
        2 * (s.argY.getLsbD 4 ^^ s.argX.getLsbD 4).toNat) }

/-- Derived from 42_bank_pipe.md section 1 (the formula of R142, which the spec marks as general knowledge,
not source): with 8 banks BANK returns three bits. -/
def Obligations.BankCommandEightBanks : Prop :=
  ∀ s : State, s.cfg.Legal → s.cfg.banks = 8 →
    exec .bank s = .next { s with
      res0 := BitVec.ofNat 32 ((s.argY.getLsbD 6 ^^ s.argX.getLsbD 3).toNat +
        2 * ((s.argY.getLsbD 6 ^^ s.argY.getLsbD 5) ^^ s.argX.getLsbD 4).toNat +
        4 * (s.argY.getLsbD 4 ^^ s.argX.getLsbD 5).toNat) }

/-- R145 and R146: ROTATION returns the surface rotation of the latched mode: with two pipes,
`2*((BANKS >> 1) - 1)` for modes 4 to 11, 1 for modes 12 to 15, 0 below 4; without a descriptor it
raises DescriptorNotLoaded. -/
def Obligations.RotationCommandResult : Prop :=
  ∀ s : State, s.cfg.Legal →
    (s.descValid = true → exec .rotation s = .next { s with
      res0 := if s.lat.tileMode.toNat < 4 then 0#32
        else if s.lat.tileMode.toNat < 12 then (if s.cfg.banks = 4 then 2#32 else 6#32) else 1#32 }) ∧
    (s.descValid = false → exec .rotation s = .next { s with err := true, errCode := 0x04#8 })

/-- R148: BSWIDTH returns the bank-swapped width of the latched mode, bpp and pitch (0 for a mode that is
not bank-swapped), in every state that meets the invariant; without a descriptor it raises
DescriptorNotLoaded. -/
def Obligations.BswidthCommandResult : Prop :=
  ∀ s : State, s.Inv →
    (s.descValid = true → ∃ w,
      bankSwappedWidth s.cfg s.lat.tileMode.toNat s.lat.bpp s.lat.pitch.toNat = .ok w ∧
      exec .bswidth s = .next { s with res0 := BitVec.ofNat 32 w } ∧
      (s.lat.tileMode.toNat ∉ [8, 9, 10, 11, 14, 15] → w = 0)) ∧
    (s.descValid = false → exec .bswidth s = .next { s with err := true, errCode := 0x04#8 })

/-- Derived from R147, R149 (a table the spec marks as derived): with the default geometry the width
before the halving loop is the table's, no division by 0 occurs, and the final width is that number
halved until it is below `2 * pitch`, at least 1. -/
def Obligations.DefaultSwapWidthTable : Prop :=
  ∀ m bpp pitch unhalved : Nat, bpp ∈ [8, 16, 32, 64, 128] → 1 ≤ pitch →
    ((m ∈ [8, 9, 14] ∧ unhalved = 4096 / bpp) ∨ (m ∈ [10, 11, 15] ∧ unhalved = 2048 / bpp)) →
    ∃ w k, bankSwappedWidth Config.default m bpp pitch = .ok w ∧ w = unhalved / 2 ^ k ∧
      w < 2 * pitch ∧ (∀ j, j < k → 2 * pitch ≤ unhalved / 2 ^ j) ∧ 1 ≤ w

/-! ## The address resolver (43_address_resolver.md) -/

/-- R176: PIXIDX returns the six coordinate bits the table names for the latched bpp, whatever the
coordinate; its bits 6 and up are 0. Without a descriptor it raises DescriptorNotLoaded. -/
def Obligations.PixidxCommandResult : Prop :=
  ∀ s : State,
    (∀ r : PixelRow, s.descValid = true →
      (s.lat.bpp, r) ∈ [(8, s.cfg.pixelBits.c8), (16, s.cfg.pixelBits.c16), (32, s.cfg.pixelBits.c32),
        (64, s.cfg.pixelBits.c64), (128, s.cfg.pixelBits.c128)] →
      exec .pixidx s = .next { s with
      res0 := BitVec.ofNat 32 ((s.coordBit r.s0).toNat + 2 * (s.coordBit r.s1).toNat +
        4 * (s.coordBit r.s2).toNat + 8 * (s.coordBit r.s3).toNat + 16 * (s.coordBit r.s4).toNat +
        32 * (s.coordBit r.s5).toNat) }) ∧
    (s.descValid = false → exec .pixidx s = .next { s with err := true, errCode := 0x04#8 })

/-- Derived from R175, R177: for every table whose rows are permutations of the six bits, the pixel index
maps the 64 positions of a micro-tile one-to-one onto 0 to 63. -/
def Obligations.PixelIndexIsOneToOne : Prop :=
  ∀ (c : Config) (bpp m : Nat), PixelBitTable.AllPermutations c.pixelBits →
    (∀ x y x' y', x < 8 → y < 8 → x' < 8 → y' < 8 →
      pixelIndex c x y bpp m = pixelIndex c x' y' bpp m → x = x' ∧ y = y') ∧
    (∀ n, n < 64 → ∃ x y, x < 8 ∧ y < 8 ∧ pixelIndex c x y bpp m = n)

/-- R170: RESOLVE, its errors in their order: no descriptor, a coordinate outside the surface, an error of
the address formula, else the address in `RES0`, with the flag when the element leaves the buffer. -/
def Obligations.ResolveCommandResult : Prop :=
  ∀ s : State,
    (s.descValid = false → exec .resolve s = .next { s with err := true, errCode := 0x04#8 }) ∧
    (s.descValid = true → (s.lat.elemW ≤ s.argX.toNat ∨ s.lat.elemH ≤ s.argY.toNat) →
      exec .resolve s = .next { s with err := true, errCode := 0x05#8 }) ∧
    (s.descValid = true → s.argX.toNat < s.lat.elemW → s.argY.toNat < s.lat.elemH →
      (∀ e, resolveAddr s.cfg s.lat s.argX.toNat s.argY.toNat = .error e →
        exec .resolve s = .next { s with err := true, errCode := e.code } ∧
        (e = .splitAmbiguous ∨ e = .arithmeticFault)) ∧
      (∀ a, resolveAddr s.cfg s.lat s.argX.toNat s.argY.toNat = .ok a →
        (a + s.lat.bpp / 8 ≤ s.lat.dataSize.toNat →
          exec .resolve s = .next { s with res0 := BitVec.ofNat 32 a }) ∧
        (s.lat.dataSize.toNat < a + s.lat.bpp / 8 →
          exec .resolve s =
            .next { s with res0 := BitVec.ofNat 32 a, oor := true, errCode := 0x06#8 })))

/-- Derived from R170, R172, R188: the linear identity: on a linear surface RESOLVE of a coordinate
inside it returns `((y*pitch + x)*bpp)/8`; with `pitch = width` in elements that is the raster position
times the element size. -/
def Obligations.ResolveLinearIdentity : Prop :=
  ∀ s : State, s.Inv → s.descValid = true → s.lat.tileMode.toNat ≤ 1 →
    s.argX.toNat < s.lat.elemW → s.argY.toNat < s.lat.elemH →
    ∃ t, exec .resolve s = .next t ∧
      t.res0 = BitVec.ofNat 32
        (((s.argY.toNat * s.lat.pitch.toNat + s.argX.toNat) * s.lat.bpp) / 8) ∧
      t = { s with res0 := t.res0, oor := t.oor, errCode := t.errCode } ∧
      (s.lat.pitch.toNat = s.lat.elemW →
        t.res0 = BitVec.ofNat 32
          ((s.argY.toNat * s.lat.elemW + s.argX.toNat) * (s.lat.bpp / 8)))

/-- R173: the micro-tiled address, in divisions: a micro-tile of `8*th*bpp` bytes for each 8×8 elements,
`pitch/8` of them a row, and the element at its pixel index inside. -/
def Obligations.ResolveMicroTiledAddress : Prop :=
  ∀ (s : State) (th a : Nat), s.Inv → s.descValid = true →
    ((s.lat.tileMode = 2#4 ∧ th = 1) ∨ (s.lat.tileMode = 3#4 ∧ th = 4)) →
    s.argX.toNat < s.lat.elemW → s.argY.toNat < s.lat.elemH →
    a = 8 * th * s.lat.bpp *
          (s.argX.toNat / 8 + (s.argY.toNat / 8) * (s.lat.pitch.toNat / 8)) +
        s.lat.bpp / 8 *
          pixelIndex s.cfg s.argX.toNat s.argY.toNat s.lat.bpp s.lat.tileMode.toNat →
    exec .resolve s = .next (if a + s.lat.bpp / 8 ≤ s.lat.dataSize.toNat
      then { s with res0 := BitVec.ofNat 32 a }
      else { s with res0 := BitVec.ofNat 32 a, oor := true, errCode := 0x06#8 })

/-- Derived from R180, R37: the swizzle network, with two pipes: the pipe is XORed with the pipe swizzle
and the bank with the bank swizzle, and the reduction modulo `PIPES*BANKS` changes no value. -/
def Obligations.SwizzleXorsPipeAndBank : Prop :=
  ∀ (c : Config) (l : Latch) (x y : Nat), c.Legal →
    swizzledPipeBank c l x y =
      (pipeIndex x y ^^^ l.pipeSwizzle.toNat, bankIndex c x y ^^^ l.bankSwizzle.toNat) ∧
    ((pipeIndex x y + c.pipes * bankIndex c x y) ^^^
        (l.pipeSwizzle.toNat + c.pipes * l.bankSwizzle.toNat)) < c.pipes * c.banks

/-- Derived from R185, R7: the four parts of an assembled address occupy disjoint bits, so the OR is a
sum; with the default geometry bits [7:0] are `total[7:0]`, bit 8 is the pipe, bits [10:9] the bank, and
the rest `total` above its low byte. -/
def Obligations.AssembledPartsAreDisjoint : Prop :=
  (∀ (c : Config) (elem mto pipe bank total : Nat), c.Legal → pipe < c.pipes → bank < c.banks →
    total = elem + mto / (c.pipes * c.banks) →
    assemble c elem mto pipe bank =
      (total / c.groupSize) * (c.groupSize * (c.pipes * c.banks)) + bank * (c.pipes * c.groupSize) +
        pipe * c.groupSize + total % c.groupSize) ∧
  (∀ elem mto pipe bank total : Nat, pipe < 2 → bank < 4 → total = elem + mto / 8 →
    assemble Config.default elem mto pipe bank % 2 ^ 8 = total % 2 ^ 8 ∧
    assemble Config.default elem mto pipe bank / 2 ^ 8 % 2 = pipe ∧
    assemble Config.default elem mto pipe bank / 2 ^ 9 % 4 = bank ∧
    assemble Config.default elem mto pipe bank / 2 ^ 11 = total / 2 ^ 8)

/-- Derived from R183, R49: the bank swap: nothing for a mode that is not bank-swapped; for one that is,
the bank XORed with the swap order's entry for the macro-tile column, still below `BANKS`, or
ArithmeticFault when the latched width is 0. -/
def Obligations.BankSwapResult : Prop :=
  ∀ (c : Config) (l : Latch) (bank x : Nat), c.Legal → bank < c.banks →
    (l.tileMode.toNat ∉ [8, 9, 10, 11, 14, 15] → bankSwap c l bank x = .ok bank) ∧
    (l.tileMode.toNat ∈ [8, 9, 10, 11, 14, 15] → l.bsw = 0 →
      bankSwap c l bank x = .error .arithmeticFault) ∧
    (l.tileMode.toNat ∈ [8, 9, 10, 11, 14, 15] → l.bsw ≠ 0 →
      ∀ mtp, mtp = 8 * c.banks / aspect l.tileMode.toNat →
        ∃ b, bankSwap c l bank x = .ok b ∧ b < c.banks ∧
          b = bank ^^^ [0, 1, 3, 2, 6, 7, 5, 4].getD ((mtp * (x / mtp) / l.bsw) % c.banks) 0)

/-- R184 and R260: the split check: RESOLVE, FETCH and FETCH_DECODE of an element of a macro-tiled surface
raise SplitAmbiguous (code 8) when the micro-tile exceeds `SPLIT_SIZE` under `REFUSE`; `NO_SLICE` never
raises it; with the default geometry it is raised for the thick macro modes at bpp 128 and for nothing else.
-/
def Obligations.SplitCheckRefuses : Prop :=
  (∀ (i : Instr) (s : State), i ∈ [.resolve, .fetch, .fetchDecode] → s.Inv → s.descValid = true →
    (i = .fetchDecode → s.lat.isBC = true) →
    s.lat.tileMode.toNat ∈ [4, 5, 6, 8, 9, 10, 12, 14, 7, 11, 13, 15] →
    s.argX.toNat < s.lat.elemW → s.argY.toNat < s.lat.elemH →
    s.cfg.slicePolicy = .refuse →
    s.cfg.splitSize < 8 * thickness s.lat.tileMode.toNat * s.lat.bpp →
    exec i s = .next { s with err := true, errCode := 0x08#8 }) ∧
  (∀ (c : Config) (l : Latch) (x y : Nat), c.slicePolicy = .noSlice →
    resolveAddr c l x y ≠ .error .splitAmbiguous) ∧
  (∀ (l : Latch) (x y : Nat), Latch.Checked Config.default l →
    (resolveAddr Config.default l x y = .error .splitAmbiguous ↔
      (l.tileMode.toNat ∈ [7, 11, 13, 15] ∧ l.bpp = 128)))

/-- Derived from R140-R142, R174, R179-R185: the macro-tiled address of RESOLVE in closed form, for every
legal configuration: the macro-tile's and the element's offset, split at the group, with the swizzled pipe
and the swizzled and swapped bank put between. The 8-bank case rests on R142, which the spec marks as
general knowledge (notes/assumptions/12.md). -/
def Obligations.ResolveMacroTiledAddress : Prop :=
  ∀ (s : State) (x y m th asp mtp mth total bank a : Nat), s.Inv → s.descValid = true →
    x = s.argX.toNat → y = s.argY.toNat → x < s.lat.elemW → y < s.lat.elemH →
    m = s.lat.tileMode.toNat → 4 ≤ m →
    th = (if m ∈ [7, 11, 13, 15] then 4 else 1) →
    asp = (if m ∈ [5, 9] then 2 else if m ∈ [6, 10] then 4 else 1) →
    mtp = 8 * s.cfg.banks / asp → mth = 16 * asp →
    (s.cfg.slicePolicy = .noSlice ∨ 8 * th * s.lat.bpp ≤ s.cfg.splitSize) →
    (m ∈ [8, 9, 10, 11, 14, 15] → s.lat.bsw ≠ 0) →
    total = s.lat.bpp / 8 * pixelIndex s.cfg x y s.lat.bpp m +
      8 * th * s.lat.bpp * (x / mtp + s.lat.pitch.toNat / mtp * (y / mth)) →
    bank = bankIndex s.cfg x y ^^^ s.lat.bankSwizzle.toNat ^^^
      (if m ∈ [8, 9, 10, 11, 14, 15]
        then [0, 1, 3, 2, 6, 7, 5, 4].getD ((mtp * (x / mtp) / s.lat.bsw) % s.cfg.banks) 0 else 0) →
    a = (total / s.cfg.groupSize) * (s.cfg.groupSize * (2 * s.cfg.banks)) +
      bank * (2 * s.cfg.groupSize) + (pipeIndex x y ^^^ s.lat.pipeSwizzle.toNat) * s.cfg.groupSize +
      total % s.cfg.groupSize →
    exec .resolve s = .next (if a + s.lat.bpp / 8 ≤ s.lat.dataSize.toNat
      then { s with res0 := BitVec.ofNat 32 a }
      else { s with res0 := BitVec.ofNat 32 a, oor := true, errCode := 0x06#8 })

/-- Derived from R172, R173, R177, R189: on a linear surface, and on a micro-tiled one whose pitch is a
multiple of 8, no two elements of the surface share a byte, for every table of permutations. -/
def Obligations.LinearAndMicroElementsNeverOverlap : Prop :=
  ∀ (c : Config) (l : Latch) (x y x' y' a a' : Nat), Latch.Checked c l →
    PixelBitTable.AllPermutations c.pixelBits → l.tileMode.toNat ≤ 3 →
    (2 ≤ l.tileMode.toNat → l.pitch.toNat % 8 = 0) →
    x < l.elemW → x' < l.elemW → (x, y) ≠ (x', y') →
    resolveAddr c l x y = .ok a → resolveAddr c l x' y' = .ok a' →
    spansApart a a' (l.bpp / 8)

/-- Derived from R140-R142, R174-R185, R189: the resolver is one-to-one. On every macro-tiled surface whose
pitch is a multiple of the macro-tile pitch, for every legal configuration with a group of at least 16 bytes
and every table of permutations, any swizzle and any bank swap, no two elements share a byte. The 8-bank
case rests on R142, which the spec marks as general knowledge (notes/assumptions/12.md). -/
def Obligations.MacroTiledElementsNeverOverlap : Prop :=
  ∀ (c : Config) (l : Latch) (x y x' y' a a' : Nat), c.Legal → Latch.Checked c l →
    PixelBitTable.AllPermutations c.pixelBits → 16 ≤ c.groupSize → 4 ≤ l.tileMode.toNat →
    l.pitch.toNat % (8 * c.banks / aspect l.tileMode.toNat) = 0 →
    x < l.elemW → x' < l.elemW → (x, y) ≠ (x', y') →
    resolveAddr c l x y = .ok a → resolveAddr c l x' y' = .ok a' →
    spansApart a a' (l.bpp / 8)

/-- R195: FETCH, its errors in their order, and its two results: the element's bytes in `BLK0`-`BLK3`, zeros
after them, or zeros with the flag; `RES0` receives the address either way. -/
def Obligations.FetchCommandResult : Prop :=
  ∀ s : State,
    (s.descValid = false → exec .fetch s = .next { s with err := true, errCode := 0x04#8 }) ∧
    (s.descValid = true → (s.lat.elemW ≤ s.argX.toNat ∨ s.lat.elemH ≤ s.argY.toNat) →
      exec .fetch s = .next { s with err := true, errCode := 0x05#8 }) ∧
    (s.descValid = true → s.argX.toNat < s.lat.elemW → s.argY.toNat < s.lat.elemH →
      (∀ e, resolveAddr s.cfg s.lat s.argX.toNat s.argY.toNat = .error e →
        exec .fetch s = .next { s with err := true, errCode := e.code }) ∧
      (∀ a, resolveAddr s.cfg s.lat s.argX.toNat s.argY.toNat = .ok a →
        (a + s.lat.bpp / 8 ≤ s.lat.dataSize.toNat →
          ∃ b : BlockRegs, exec .fetch s = .next { s with res0 := BitVec.ofNat 32 a, blk := b } ∧
            ∀ i, i < 16 → b.bytes.getD i 0 = if i < s.lat.bpp / 8 then s.src.read (a + i) else 0) ∧
        (s.lat.dataSize.toNat < a + s.lat.bpp / 8 →
          exec .fetch s = .next { s with res0 := BitVec.ofNat 32 a, blk := ⟨0, 0, 0, 0⟩, oor := true,
                                         errCode := 0x06#8 })))

/-! ## The block decoder (44_block_decoder.md) -/

/-- R210: DECODE: with `BCSEL` 1 to 3 it decodes `BLK0`-`BLK3` as that class in any state; with `BCSEL` 0 as
the latched class, raising DescriptorNotLoaded, then FormatClassMismatch; it writes `RES1` only. -/
def Obligations.DecodeCommandResult : Prop :=
  ∀ s : State,
    (∀ cls, exec (.decode (some cls)) s = .next { s with
      res1 := BitVec.ofNat 32 (decodeTexel s.cfg s.blk cls (s.argT.toNat % 4) (s.argT.toNat / 4)) }) ∧
    (s.descValid = false → exec (.decode none) s = .next { s with err := true, errCode := 0x04#8 }) ∧
    (s.descValid = true → s.lat.isBC = false →
      exec (.decode none) s = .next { s with err := true, errCode := 0x0A#8 }) ∧
    (∀ cls, s.descValid = true → s.lat.bcClass = some cls → exec (.decode none) s = .next { s with
      res1 := BitVec.ofNat 32 (decodeTexel s.cfg s.blk cls (s.argT.toNat % 4) (s.argT.toNat / 4)) })

/-- Derived from R210: a BC1 decode reads `blk[0..7]` only. -/
def Obligations.Bc1ReadsOnlyEightBytes : Prop :=
  ∀ (s t : State) (b2 b3 : Word), exec (.decode (some .bc1)) s = .next t →
    exec (.decode (some .bc1)) { s with blk := { s.blk with b2 := b2, b3 := b3 } } =
      .next { t with blk := { s.blk with b2 := b2, b3 := b3 } }

/-- Derived from R211-R215, R220, R222: the colour bytes of a decoded texel, from the registers: the
endpoints are the halves of the colour part's first register, the code two bits of its second; each
channel is the expanded endpoint or the truncated mix the code selects, and no byte carries into the
next. The block layout is one the spec marks as general knowledge. -/
def Obligations.DecodeColourFromRegisters : Prop :=
  ∀ (s : State) (cls : BcClass) (w0 w1 : Word) (c0 c1 code : Nat) (mix : Nat → Nat → Nat),
    w0 = (if cls = .bc1 then s.blk.b0 else s.blk.b2) →
    w1 = (if cls = .bc1 then s.blk.b1 else s.blk.b3) →
    c0 = w0.toNat % 65536 → c1 = w0.toNat / 65536 → code = w1.toNat / 4 ^ s.argT.toNat % 4 →
    (∀ p q, mix p q =
      if code = 0 then p else if code = 1 then q
      else if code = 2 then
        (if c1 < c0 ∨ (s.cfg.bc23Code2Four = true ∧ cls ≠ .bc1) then (2 * p + q) / 3 else (p + q) / 2)
      else (if c1 < c0 ∨ cls ≠ .bc1 then (p + 2 * q) / 3 else 0)) →
    ∃ t, exec (.decode (some cls)) s = .next t ∧
      (t.res1.extractLsb' 0 8).toNat =
        mix (8 * (c0 / 2048) + c0 / 2048 / 4) (8 * (c1 / 2048) + c1 / 2048 / 4) ∧
      (t.res1.extractLsb' 8 8).toNat =
        mix (4 * (c0 / 32 % 64) + c0 / 32 % 64 / 16) (4 * (c1 / 32 % 64) + c1 / 32 % 64 / 16) ∧
      (t.res1.extractLsb' 16 8).toNat =
        mix (8 * (c0 % 32) + c0 % 32 / 4) (8 * (c1 % 32) + c1 % 32 / 4)

/-- Derived from R211, R212, R215, R216, R220: the alpha of a BC1 texel is 255, or 0 for code 3 when
`color0` is not above `color1`, and the texel is then transparent black. The order of the endpoints and
the place of a texel's code are ones the spec marks as general knowledge. -/
def Obligations.Bc1AlphaFromRegisters : Prop :=
  ∀ (s : State) (code : Nat), code = s.blk.b1.toNat / 4 ^ s.argT.toNat % 4 →
    ∃ t, exec (.decode (some .bc1)) s = .next t ∧
      ((code = 3 ∧ s.blk.b0.toNat % 65536 ≤ s.blk.b0.toNat / 65536) → t.res1 = 0) ∧
      (¬ (code = 3 ∧ s.blk.b0.toNat % 65536 ≤ s.blk.b0.toNat / 65536) →
        (t.res1.extractLsb' 24 8).toNat = 255)

/-- Derived from R211-R216, R220, R223: the degenerate BC1 block: when both endpoints are equal, codes 0, 1
and 2 all give that colour, opaque, and code 3 gives transparent black. The order and byte order of the
endpoints, the place of a texel's code and the 5-6-5 fields are ones the spec marks as general knowledge
(notes/assumptions/12.md). -/
def Obligations.Bc1DegenerateBlock : Prop :=
  ∀ (s : State) (code v : Nat), v = s.blk.b0.toNat % 65536 → s.blk.b0.toNat / 65536 = v →
    code = s.blk.b1.toNat / 4 ^ s.argT.toNat % 4 →
    exec (.decode (some .bc1)) s = .next { s with
      res1 := if code = 3 then 0 else BitVec.ofNat 32 (0xFF000000 +
        65536 * (8 * (v % 32) + v % 32 / 4) + 256 * (4 * (v / 32 % 64) + v / 32 % 64 / 16) +
        (8 * (v / 2048) + v / 2048 / 4)) }

/-- Derived from R211, R212, R217, R220: the alpha of a BC2 texel is its nibble of the 64-bit alpha word,
replicated: 17 times the nibble. The alpha word, the texel's index and the nibble's place are ones the spec
marks as general knowledge (notes/assumptions/12.md). -/
def Obligations.Bc2AlphaFromRegisters : Prop :=
  ∀ s : State, ∃ t, exec (.decode (some .bc2)) s = .next t ∧
    (t.res1.extractLsb' 24 8).toNat =
      17 * ((s.blk.b0.toNat + 2 ^ 32 * s.blk.b1.toNat) / 16 ^ s.argT.toNat % 16)

/-- Derived from R211, R212, R218-R220: the alpha of a BC3 texel: the 3-bit code of the 48-bit stream at
byte 2 selects an endpoint, a step of the 7-step or the 5-step ramp, 0 or 255. The texel's index is one
the spec marks as general knowledge. -/
def Obligations.Bc3AlphaFromRegisters : Prop :=
  ∀ (s : State) (a0 a1 code : Nat), a0 = s.blk.b0.toNat % 256 → a1 = s.blk.b0.toNat / 256 % 256 →
    code = (s.blk.b0.toNat + 2 ^ 32 * s.blk.b1.toNat) / 65536 / 8 ^ s.argT.toNat % 8 →
    ∃ t, exec (.decode (some .bc3)) s = .next t ∧
      (t.res1.extractLsb' 24 8).toNat =
        if code = 0 then a0
        else if code = 1 then a1
        else if a1 < a0 then (a0 * (8 - code) + a1 * (code - 1)) / 7
        else if code ≤ 5 then (a0 * (6 - code) + a1 * (code - 1)) / 5
        else if code = 6 then 0 else 255

/-- Derived from R213, R214, R215: every opaque palette colour lies, channel by channel, between the two
endpoints. -/
def Obligations.PaletteLiesBetweenEndpoints : Prop :=
  ∀ (four : Bool) (cls : BcClass) (c0 c1 code : Nat) (col : Rgb),
    paletteColour four cls c0 c1 code = (col, true) →
    (min (expandColour c0).r (expandColour c1).r ≤ col.r ∧
      col.r ≤ max (expandColour c0).r (expandColour c1).r) ∧
    (min (expandColour c0).g (expandColour c1).g ≤ col.g ∧
      col.g ≤ max (expandColour c0).g (expandColour c1).g) ∧
    (min (expandColour c0).b (expandColour c1).b ≤ col.b ∧
      col.b ≤ max (expandColour c0).b (expandColour c1).b)

/-- R221: FETCH_DECODE, its errors in their order, and its two results: the block fetched into
`BLK0`-`BLK3` and its texel decoded into `RES1`, or zeros with the flag. -/
def Obligations.FetchDecodeCommandResult : Prop :=
  ∀ s : State,
    (s.descValid = false → exec .fetchDecode s = .next { s with err := true, errCode := 0x04#8 }) ∧
    (s.descValid = true → s.lat.isBC = false →
      exec .fetchDecode s = .next { s with err := true, errCode := 0x0A#8 }) ∧
    (∀ cls, s.descValid = true → s.lat.bcClass = some cls →
      ((s.lat.elemW ≤ s.argX.toNat ∨ s.lat.elemH ≤ s.argY.toNat) →
        exec .fetchDecode s = .next { s with err := true, errCode := 0x05#8 }) ∧
      (s.argX.toNat < s.lat.elemW → s.argY.toNat < s.lat.elemH →
        (∀ e, resolveAddr s.cfg s.lat s.argX.toNat s.argY.toNat = .error e →
          exec .fetchDecode s = .next { s with err := true, errCode := e.code }) ∧
        (∀ a, resolveAddr s.cfg s.lat s.argX.toNat s.argY.toNat = .ok a →
          (a + s.lat.bpp / 8 ≤ s.lat.dataSize.toNat →
            ∃ b : BlockRegs, exec .fetchDecode s = .next { s with
                res0 := BitVec.ofNat 32 a, blk := b,
                res1 := BitVec.ofNat 32
                  (decodeTexel s.cfg b cls (s.argT.toNat % 4) (s.argT.toNat / 4)) } ∧
              ∀ i, i < 16 → b.bytes.getD i 0 = if i < s.lat.bpp / 8 then s.src.read (a + i) else 0) ∧
          (s.lat.dataSize.toNat < a + s.lat.bpp / 8 →
            exec .fetchDecode s = .next { s with
              res0 := BitVec.ofNat 32 a, res1 := 0, blk := ⟨0, 0, 0, 0⟩, oor := true,
              errCode := 0x06#8 }))))

/-- Derived from R195, R210, R221: FETCH_DECODE of a block inside the surface is FETCH and then DECODE,
with `BCSEL` 0 or with the latched class; when the block leaves the buffer it is FETCH with `RES1` 0. -/
def Obligations.FetchDecodeIsFetchThenDecode : Prop :=
  ∀ (s u : State) (cls : BcClass) (a : Nat), s.descValid = true → s.lat.bcClass = some cls →
    s.argX.toNat < s.lat.elemW → s.argY.toNat < s.lat.elemH →
    resolveAddr s.cfg s.lat s.argX.toNat s.argY.toNat = .ok a → exec .fetch s = .next u →
    (a + s.lat.bpp / 8 ≤ s.lat.dataSize.toNat →
      exec .fetchDecode s = exec (.decode none) u ∧
      exec .fetchDecode s = exec (.decode (some cls)) u) ∧
    (s.lat.dataSize.toNat < a + s.lat.bpp / 8 → exec .fetchDecode s = .next { u with res1 := 0 })

/-! ## Host programs (30_encoding.md) -/

/-- Derived from R41, R98: the pseudo-instruction SETBLK leaves its sixteen bytes in the block registers,
byte by byte, and changes nothing else. -/
def Obligations.SetBlkProgramFillsBlock : Prop :=
  ∀ (s : State) (b0 b1 b2 b3 b4 b5 b6 b7 b8 b9 b10 b11 b12 b13 b14 b15 : Byte), s.cfg.Legal →
    ∃ b : BlockRegs,
      runSteps (AsmLine.setBlk b0 b1 b2 b3 b4 b5 b6 b7 b8 b9 b10 b11 b12 b13 b14 b15).expand s =
        .next { s with blk := b } ∧
      b.bytes = [b0, b1, b2, b3, b4, b5, b6, b7, b8, b9, b10, b11, b12, b13, b14, b15]

/-- Derived from R98, R285: the pseudo-instruction LOADDESC is the seven descriptor writes, of which the
tile mode keeps its low five bits, and then LOAD_DESC. -/
def Obligations.LoadDescProgramWritesThenIssues : Prop :=
  ∀ (s : State) (w h p m z f n : Word), s.cfg.Legal →
    runSteps (AsmLine.loadDesc w h p m z f n).expand s =
      exec .loadDesc { s with desc := ⟨w, h, p, BitVec.ofNat 5 (m.toNat % 32), z, f, n⟩ }

/-! ## The arithmetic fault (60_exceptions.md) -/

/-- Derived from R183, R259, R262, R264: RESOLVE, FETCH and FETCH_DECODE of an element of a bank-swapped
surface that passes the split check raise ArithmeticFault (code 9), and do nothing else, when the latched
swap width is 0. R259 names LOAD_DESC as the other place; see `Obligations.LoadDescRefusesInOrder`. -/
def Obligations.ZeroSwapWidthRaisesArithmeticFault : Prop :=
  ∀ (i : Instr) (s : State), i ∈ [.resolve, .fetch, .fetchDecode] → s.descValid = true →
    (i = .fetchDecode → s.lat.isBC = true) →
    s.lat.tileClass = .macroTiled → s.lat.tileMode.toNat ∈ [8, 9, 10, 11, 14, 15] → s.lat.bsw = 0 →
    s.argX.toNat < s.lat.elemW → s.argY.toNat < s.lat.elemH →
    (s.cfg.slicePolicy = .noSlice ∨ 8 * thickness s.lat.tileMode.toNat * s.lat.bpp ≤ s.cfg.splitSize) →
    exec i s = .next { s with err := true, errCode := 0x09#8 }
end

