-- ==== Sys2Proof/Laws/Memory.lean ====
section
/-! SUPPORT. The laws of the source buffer: read after write, and the canonical form. -/

namespace Sys2Proof.Machine

@[simp] theorem Memory.read_nil (a : Nat) : Memory.read [] a = unlistedByte := rfl

theorem Memory.read_cons (k : Nat) (c : Byte) (m : Memory) (a : Nat) :
    Memory.read ((k, c) :: m) a = if a = k then c else m.read a := rfl

/-- Below every listed address the buffer reads as an unlisted address does. -/
theorem Memory.read_below {m : Memory} {a : Nat} (h : ∀ c ∈ m, a < c.1) : m.read a = unlistedByte := by
  induction m with
  | nil => rfl
  | cons c m ih =>
    obtain ⟨k, v⟩ := c
    have hk : a < k := h (k, v) List.mem_cons_self
    rw [Memory.read_cons, if_neg (by omega)]
    exact ih fun c hc => h c (List.mem_cons_of_mem _ hc)

/-- What a write leaves listed: the old cells and the written one. -/
theorem Memory.mem_write {m : Memory} {a : Nat} {b : Byte} {c : Host.Cell} (h : c ∈ m.write a b) :
    c ∈ m ∨ (c = (a, b) ∧ b ≠ unlistedByte) := by
  induction m with
  | nil =>
    by_cases hb : b = unlistedByte <;> simp_all [Memory.write]
  | cons d m ih =>
    obtain ⟨k, v⟩ := d
    by_cases hb : b = unlistedByte <;> by_cases hlt : a < k <;> by_cases heq : a = k <;>
      simp [Memory.write, hb, hlt, heq] at h <;> grind

/-- A write sets the byte it names and no other. -/
theorem Memory.read_write {m : Memory} (hm : m.Pairwise (fun p q => p.1 < q.1)) (a : Nat) (b : Byte)
    (x : Nat) : (m.write a b).read x = if x = a then b else m.read x := by
  induction m with
  | nil =>
    by_cases hb : b = unlistedByte <;> by_cases hx : x = a <;>
      simp [Memory.write, Memory.read_cons, hb, hx]
  | cons d m ih =>
    obtain ⟨k, v⟩ := d
    obtain ⟨hk, hm'⟩ := List.pairwise_cons.mp hm
    have below : ∀ y, y ≤ k → Memory.read m y = unlistedByte := fun y hy =>
      Memory.read_below fun c hc => Nat.lt_of_le_of_lt hy (hk c hc)
    unfold Memory.write
    split
    · rename_i hlt
      split
      · rename_i hb
        rw [Memory.read_cons]
        by_cases hx : x = a
        · subst hx
          rw [if_neg (Nat.ne_of_lt hlt), below _ (Nat.le_of_lt hlt), if_pos rfl, hb]
        · rw [if_neg hx]
      · rw [Memory.read_cons]
    · rename_i hlt
      split
      · rename_i heq
        subst heq
        split
        · rename_i hb
          by_cases hx : x = a
          · rw [if_pos hx, hb, hx, below _ (Nat.le_refl _)]
          · rw [if_neg hx, Memory.read_cons, if_neg hx]
        · rw [Memory.read_cons, Memory.read_cons]
          by_cases hx : x = a <;> simp [hx]
      · rename_i hne
        rw [Memory.read_cons, Memory.read_cons, ih hm']
        by_cases hx : x = k <;> by_cases hxa : x = a <;> simp [hx, hxa] <;> omega

/-- A write of a 32-bit address keeps the canonical form. -/
theorem Memory.write_wf {m : Memory} (h : Memory.wf m) {a : Nat} (ha : a < 2 ^ 32) (b : Byte) :
    Memory.wf (m.write a b) := by
  refine ⟨?_, ?_⟩
  · obtain ⟨hs, -⟩ := h
    induction m with
    | nil =>
      unfold Memory.write
      split <;> simp
    | cons d m ih =>
      obtain ⟨k, v⟩ := d
      obtain ⟨hk, hm'⟩ := List.pairwise_cons.mp hs
      unfold Memory.write
      split
      · rename_i hlt
        split
        · exact hs
        · refine List.pairwise_cons.mpr ⟨?_, hs⟩
          intro c hc
          rcases List.mem_cons.mp hc with rfl | hc
          · exact hlt
          · exact Nat.lt_trans hlt (hk c hc)
      · split
        · rename_i heq
          subst heq
          split
          · exact hm'
          · exact List.pairwise_cons.mpr ⟨hk, hm'⟩
        · refine List.pairwise_cons.mpr ⟨?_, ih hm'⟩
          intro c hc
          rcases Memory.mem_write hc with hc | ⟨rfl, -⟩
          · exact hk c hc
          · show k < a
            omega
  · intro c hc
    rcases Memory.mem_write hc with hc | ⟨rfl, hb⟩
    · exact h.2 c hc
    · exact ⟨ha, hb⟩

theorem Memory.wf_nil : Memory.wf [] := ⟨List.Pairwise.nil, by simp⟩

@[simp] theorem Memory.readSpan_length (m : Memory) (addr n : Nat) : (m.readSpan addr n).length = n := by
  simp [Memory.readSpan]

/-- A span read asks the buffer for its own bytes only (20_memory.md R71). -/
theorem Memory.readSpan_congr {m m' : Memory} {addr n : Nat}
    (h : ∀ i, i < n → m.read (addr + i) = m'.read (addr + i)) : m.readSpan addr n = m'.readSpan addr n :=
  List.map_congr_left fun i hi => h i (List.mem_range.mp hi)

end Sys2Proof.Machine
end

