-- ==== Sys2Proof/Laws/State.lean ====
section
/-! SUPPORT. One lemma for each field of the state under each named update, so that no proof unfolds a
record update; and what the two composite updates leave alone. -/

namespace Sys2Proof.Machine

variable (s : State)

/-! ### `State.setBlk` -/

@[simp] theorem State.setBlk_cfg (b : BlockRegs) : (s.setBlk b).cfg = s.cfg := rfl
@[simp] theorem State.setBlk_desc (b : BlockRegs) : (s.setBlk b).desc = s.desc := rfl
@[simp] theorem State.setBlk_argX (b : BlockRegs) : (s.setBlk b).argX = s.argX := rfl
@[simp] theorem State.setBlk_argY (b : BlockRegs) : (s.setBlk b).argY = s.argY := rfl
@[simp] theorem State.setBlk_argT (b : BlockRegs) : (s.setBlk b).argT = s.argT := rfl
@[simp] theorem State.setBlk_blk (b : BlockRegs) : (s.setBlk b).blk = b := rfl
@[simp] theorem State.setBlk_res0 (b : BlockRegs) : (s.setBlk b).res0 = s.res0 := rfl
@[simp] theorem State.setBlk_res1 (b : BlockRegs) : (s.setBlk b).res1 = s.res1 := rfl
@[simp] theorem State.setBlk_descValid (b : BlockRegs) : (s.setBlk b).descValid = s.descValid := rfl
@[simp] theorem State.setBlk_oor (b : BlockRegs) : (s.setBlk b).oor = s.oor := rfl
@[simp] theorem State.setBlk_err (b : BlockRegs) : (s.setBlk b).err = s.err := rfl
@[simp] theorem State.setBlk_errCode (b : BlockRegs) : (s.setBlk b).errCode = s.errCode := rfl
@[simp] theorem State.setBlk_lat (b : BlockRegs) : (s.setBlk b).lat = s.lat := rfl
@[simp] theorem State.setBlk_src (b : BlockRegs) : (s.setBlk b).src = s.src := rfl
@[simp] theorem State.setBlk_pending (b : BlockRegs) : (s.setBlk b).pending = s.pending := rfl
@[simp] theorem State.setBlk_reads (b : BlockRegs) : (s.setBlk b).reads = s.reads := rfl

/-! ### `State.setRes0` -/

@[simp] theorem State.setRes0_cfg (v : Nat) : (s.setRes0 v).cfg = s.cfg := rfl
@[simp] theorem State.setRes0_desc (v : Nat) : (s.setRes0 v).desc = s.desc := rfl
@[simp] theorem State.setRes0_argX (v : Nat) : (s.setRes0 v).argX = s.argX := rfl
@[simp] theorem State.setRes0_argY (v : Nat) : (s.setRes0 v).argY = s.argY := rfl
@[simp] theorem State.setRes0_argT (v : Nat) : (s.setRes0 v).argT = s.argT := rfl
@[simp] theorem State.setRes0_blk (v : Nat) : (s.setRes0 v).blk = s.blk := rfl
@[simp] theorem State.setRes0_res0 (v : Nat) : (s.setRes0 v).res0 = low32 v := rfl
@[simp] theorem State.setRes0_res1 (v : Nat) : (s.setRes0 v).res1 = s.res1 := rfl
@[simp] theorem State.setRes0_descValid (v : Nat) : (s.setRes0 v).descValid = s.descValid := rfl
@[simp] theorem State.setRes0_oor (v : Nat) : (s.setRes0 v).oor = s.oor := rfl
@[simp] theorem State.setRes0_err (v : Nat) : (s.setRes0 v).err = s.err := rfl
@[simp] theorem State.setRes0_errCode (v : Nat) : (s.setRes0 v).errCode = s.errCode := rfl
@[simp] theorem State.setRes0_lat (v : Nat) : (s.setRes0 v).lat = s.lat := rfl
@[simp] theorem State.setRes0_src (v : Nat) : (s.setRes0 v).src = s.src := rfl
@[simp] theorem State.setRes0_pending (v : Nat) : (s.setRes0 v).pending = s.pending := rfl
@[simp] theorem State.setRes0_reads (v : Nat) : (s.setRes0 v).reads = s.reads := rfl

/-! ### `State.setRes1` -/

@[simp] theorem State.setRes1_cfg (v : Nat) : (s.setRes1 v).cfg = s.cfg := rfl
@[simp] theorem State.setRes1_desc (v : Nat) : (s.setRes1 v).desc = s.desc := rfl
@[simp] theorem State.setRes1_argX (v : Nat) : (s.setRes1 v).argX = s.argX := rfl
@[simp] theorem State.setRes1_argY (v : Nat) : (s.setRes1 v).argY = s.argY := rfl
@[simp] theorem State.setRes1_argT (v : Nat) : (s.setRes1 v).argT = s.argT := rfl
@[simp] theorem State.setRes1_blk (v : Nat) : (s.setRes1 v).blk = s.blk := rfl
@[simp] theorem State.setRes1_res0 (v : Nat) : (s.setRes1 v).res0 = s.res0 := rfl
@[simp] theorem State.setRes1_res1 (v : Nat) : (s.setRes1 v).res1 = low32 v := rfl
@[simp] theorem State.setRes1_descValid (v : Nat) : (s.setRes1 v).descValid = s.descValid := rfl
@[simp] theorem State.setRes1_oor (v : Nat) : (s.setRes1 v).oor = s.oor := rfl
@[simp] theorem State.setRes1_err (v : Nat) : (s.setRes1 v).err = s.err := rfl
@[simp] theorem State.setRes1_errCode (v : Nat) : (s.setRes1 v).errCode = s.errCode := rfl
@[simp] theorem State.setRes1_lat (v : Nat) : (s.setRes1 v).lat = s.lat := rfl
@[simp] theorem State.setRes1_src (v : Nat) : (s.setRes1 v).src = s.src := rfl
@[simp] theorem State.setRes1_pending (v : Nat) : (s.setRes1 v).pending = s.pending := rfl
@[simp] theorem State.setRes1_reads (v : Nat) : (s.setRes1 v).reads = s.reads := rfl

/-! ### `State.raise` -/

@[simp] theorem State.raise_cfg (e : ErrorKind) : (s.raise e).cfg = s.cfg := rfl
@[simp] theorem State.raise_desc (e : ErrorKind) : (s.raise e).desc = s.desc := rfl
@[simp] theorem State.raise_argX (e : ErrorKind) : (s.raise e).argX = s.argX := rfl
@[simp] theorem State.raise_argY (e : ErrorKind) : (s.raise e).argY = s.argY := rfl
@[simp] theorem State.raise_argT (e : ErrorKind) : (s.raise e).argT = s.argT := rfl
@[simp] theorem State.raise_blk (e : ErrorKind) : (s.raise e).blk = s.blk := rfl
@[simp] theorem State.raise_res0 (e : ErrorKind) : (s.raise e).res0 = s.res0 := rfl
@[simp] theorem State.raise_res1 (e : ErrorKind) : (s.raise e).res1 = s.res1 := rfl
@[simp] theorem State.raise_descValid (e : ErrorKind) : (s.raise e).descValid = s.descValid := rfl
@[simp] theorem State.raise_oor (e : ErrorKind) : (s.raise e).oor = s.oor := rfl
@[simp] theorem State.raise_err (e : ErrorKind) : (s.raise e).err = true := rfl
@[simp] theorem State.raise_errCode (e : ErrorKind) : (s.raise e).errCode = e.code := rfl
@[simp] theorem State.raise_lat (e : ErrorKind) : (s.raise e).lat = s.lat := rfl
@[simp] theorem State.raise_src (e : ErrorKind) : (s.raise e).src = s.src := rfl
@[simp] theorem State.raise_pending (e : ErrorKind) : (s.raise e).pending = s.pending := rfl
@[simp] theorem State.raise_reads (e : ErrorKind) : (s.raise e).reads = s.reads := rfl

/-! ### `State.flagOutOfRange` -/

@[simp] theorem State.flagOutOfRange_cfg : s.flagOutOfRange.cfg = s.cfg := rfl
@[simp] theorem State.flagOutOfRange_desc : s.flagOutOfRange.desc = s.desc := rfl
@[simp] theorem State.flagOutOfRange_argX : s.flagOutOfRange.argX = s.argX := rfl
@[simp] theorem State.flagOutOfRange_argY : s.flagOutOfRange.argY = s.argY := rfl
@[simp] theorem State.flagOutOfRange_argT : s.flagOutOfRange.argT = s.argT := rfl
@[simp] theorem State.flagOutOfRange_blk : s.flagOutOfRange.blk = s.blk := rfl
@[simp] theorem State.flagOutOfRange_res0 : s.flagOutOfRange.res0 = s.res0 := rfl
@[simp] theorem State.flagOutOfRange_res1 : s.flagOutOfRange.res1 = s.res1 := rfl
@[simp] theorem State.flagOutOfRange_descValid : s.flagOutOfRange.descValid = s.descValid := rfl
@[simp] theorem State.flagOutOfRange_oor : s.flagOutOfRange.oor = true := rfl
@[simp] theorem State.flagOutOfRange_err : s.flagOutOfRange.err = s.err := rfl
@[simp] theorem State.flagOutOfRange_errCode : s.flagOutOfRange.errCode = 0x06#8 := rfl
@[simp] theorem State.flagOutOfRange_lat : s.flagOutOfRange.lat = s.lat := rfl
@[simp] theorem State.flagOutOfRange_src : s.flagOutOfRange.src = s.src := rfl
@[simp] theorem State.flagOutOfRange_pending : s.flagOutOfRange.pending = s.pending := rfl
@[simp] theorem State.flagOutOfRange_reads : s.flagOutOfRange.reads = s.reads := rfl

/-! ### `State.acknowledge` -/

@[simp] theorem State.acknowledge_cfg : s.acknowledge.cfg = s.cfg := rfl
@[simp] theorem State.acknowledge_desc : s.acknowledge.desc = s.desc := rfl
@[simp] theorem State.acknowledge_argX : s.acknowledge.argX = s.argX := rfl
@[simp] theorem State.acknowledge_argY : s.acknowledge.argY = s.argY := rfl
@[simp] theorem State.acknowledge_argT : s.acknowledge.argT = s.argT := rfl
@[simp] theorem State.acknowledge_blk : s.acknowledge.blk = s.blk := rfl
@[simp] theorem State.acknowledge_res0 : s.acknowledge.res0 = s.res0 := rfl
@[simp] theorem State.acknowledge_res1 : s.acknowledge.res1 = s.res1 := rfl
@[simp] theorem State.acknowledge_descValid : s.acknowledge.descValid = s.descValid := rfl
@[simp] theorem State.acknowledge_oor : s.acknowledge.oor = false := rfl
@[simp] theorem State.acknowledge_err : s.acknowledge.err = false := rfl
@[simp] theorem State.acknowledge_errCode : s.acknowledge.errCode = 0 := rfl
@[simp] theorem State.acknowledge_lat : s.acknowledge.lat = s.lat := rfl
@[simp] theorem State.acknowledge_src : s.acknowledge.src = s.src := rfl
@[simp] theorem State.acknowledge_pending : s.acknowledge.pending = s.pending := rfl
@[simp] theorem State.acknowledge_reads : s.acknowledge.reads = s.reads := rfl

/-! ### `State.commit` -/

@[simp] theorem State.commit_cfg (l : Latch) : (s.commit l).cfg = s.cfg := rfl
@[simp] theorem State.commit_desc (l : Latch) : (s.commit l).desc = s.desc := rfl
@[simp] theorem State.commit_argX (l : Latch) : (s.commit l).argX = s.argX := rfl
@[simp] theorem State.commit_argY (l : Latch) : (s.commit l).argY = s.argY := rfl
@[simp] theorem State.commit_argT (l : Latch) : (s.commit l).argT = s.argT := rfl
@[simp] theorem State.commit_blk (l : Latch) : (s.commit l).blk = s.blk := rfl
@[simp] theorem State.commit_res0 (l : Latch) : (s.commit l).res0 = s.res0 := rfl
@[simp] theorem State.commit_res1 (l : Latch) : (s.commit l).res1 = s.res1 := rfl
@[simp] theorem State.commit_descValid (l : Latch) : (s.commit l).descValid = true := rfl
@[simp] theorem State.commit_oor (l : Latch) : (s.commit l).oor = s.oor := rfl
@[simp] theorem State.commit_err (l : Latch) : (s.commit l).err = s.err := rfl
@[simp] theorem State.commit_errCode (l : Latch) : (s.commit l).errCode = s.errCode := rfl
@[simp] theorem State.commit_lat (l : Latch) : (s.commit l).lat = l := rfl
@[simp] theorem State.commit_src (l : Latch) : (s.commit l).src = s.src := rfl
@[simp] theorem State.commit_pending (l : Latch) : (s.commit l).pending = s.pending := rfl
@[simp] theorem State.commit_reads (l : Latch) : (s.commit l).reads = s.reads := rfl

/-! ### `State.dropLatch` -/

@[simp] theorem State.dropLatch_cfg : s.dropLatch.cfg = s.cfg := rfl
@[simp] theorem State.dropLatch_desc : s.dropLatch.desc = s.desc := rfl
@[simp] theorem State.dropLatch_argX : s.dropLatch.argX = s.argX := rfl
@[simp] theorem State.dropLatch_argY : s.dropLatch.argY = s.argY := rfl
@[simp] theorem State.dropLatch_argT : s.dropLatch.argT = s.argT := rfl
@[simp] theorem State.dropLatch_blk : s.dropLatch.blk = s.blk := rfl
@[simp] theorem State.dropLatch_res0 : s.dropLatch.res0 = s.res0 := rfl
@[simp] theorem State.dropLatch_res1 : s.dropLatch.res1 = s.res1 := rfl
@[simp] theorem State.dropLatch_descValid : s.dropLatch.descValid = false := rfl
@[simp] theorem State.dropLatch_oor : s.dropLatch.oor = s.oor := rfl
@[simp] theorem State.dropLatch_err : s.dropLatch.err = s.err := rfl
@[simp] theorem State.dropLatch_errCode : s.dropLatch.errCode = s.errCode := rfl
@[simp] theorem State.dropLatch_lat : s.dropLatch.lat = Latch.zero := rfl
@[simp] theorem State.dropLatch_src : s.dropLatch.src = s.src := rfl
@[simp] theorem State.dropLatch_pending : s.dropLatch.pending = s.pending := rfl
@[simp] theorem State.dropLatch_reads : s.dropLatch.reads = s.reads := rfl

/-! ### `State.hostRead` -/

@[simp] theorem State.hostRead_cfg (o : Nat) : (s.hostRead o).cfg = s.cfg := rfl
@[simp] theorem State.hostRead_desc (o : Nat) : (s.hostRead o).desc = s.desc := rfl
@[simp] theorem State.hostRead_argX (o : Nat) : (s.hostRead o).argX = s.argX := rfl
@[simp] theorem State.hostRead_argY (o : Nat) : (s.hostRead o).argY = s.argY := rfl
@[simp] theorem State.hostRead_argT (o : Nat) : (s.hostRead o).argT = s.argT := rfl
@[simp] theorem State.hostRead_blk (o : Nat) : (s.hostRead o).blk = s.blk := rfl
@[simp] theorem State.hostRead_res0 (o : Nat) : (s.hostRead o).res0 = s.res0 := rfl
@[simp] theorem State.hostRead_res1 (o : Nat) : (s.hostRead o).res1 = s.res1 := rfl
@[simp] theorem State.hostRead_descValid (o : Nat) : (s.hostRead o).descValid = s.descValid := rfl
@[simp] theorem State.hostRead_oor (o : Nat) : (s.hostRead o).oor = s.oor := rfl
@[simp] theorem State.hostRead_err (o : Nat) : (s.hostRead o).err = s.err := rfl
@[simp] theorem State.hostRead_errCode (o : Nat) : (s.hostRead o).errCode = s.errCode := rfl
@[simp] theorem State.hostRead_lat (o : Nat) : (s.hostRead o).lat = s.lat := rfl
@[simp] theorem State.hostRead_src (o : Nat) : (s.hostRead o).src = s.src := rfl
@[simp] theorem State.hostRead_pending (o : Nat) : (s.hostRead o).pending = s.pending := rfl
@[simp] theorem State.hostRead_reads (o : Nat) : (s.hostRead o).reads = s.readOffset o :: s.reads := rfl

/-! ### `State.hostSetByte` -/

@[simp] theorem State.hostSetByte_cfg (a : Word) (b : Byte) : (s.hostSetByte a b).cfg = s.cfg := rfl
@[simp] theorem State.hostSetByte_desc (a : Word) (b : Byte) : (s.hostSetByte a b).desc = s.desc := rfl
@[simp] theorem State.hostSetByte_argX (a : Word) (b : Byte) : (s.hostSetByte a b).argX = s.argX := rfl
@[simp] theorem State.hostSetByte_argY (a : Word) (b : Byte) : (s.hostSetByte a b).argY = s.argY := rfl
@[simp] theorem State.hostSetByte_argT (a : Word) (b : Byte) : (s.hostSetByte a b).argT = s.argT := rfl
@[simp] theorem State.hostSetByte_blk (a : Word) (b : Byte) : (s.hostSetByte a b).blk = s.blk := rfl
@[simp] theorem State.hostSetByte_res0 (a : Word) (b : Byte) : (s.hostSetByte a b).res0 = s.res0 := rfl
@[simp] theorem State.hostSetByte_res1 (a : Word) (b : Byte) : (s.hostSetByte a b).res1 = s.res1 := rfl
@[simp] theorem State.hostSetByte_descValid (a : Word) (b : Byte) :
    (s.hostSetByte a b).descValid = s.descValid := rfl
@[simp] theorem State.hostSetByte_oor (a : Word) (b : Byte) : (s.hostSetByte a b).oor = s.oor := rfl
@[simp] theorem State.hostSetByte_err (a : Word) (b : Byte) : (s.hostSetByte a b).err = s.err := rfl
@[simp] theorem State.hostSetByte_errCode (a : Word) (b : Byte) :
    (s.hostSetByte a b).errCode = s.errCode := rfl
@[simp] theorem State.hostSetByte_lat (a : Word) (b : Byte) : (s.hostSetByte a b).lat = s.lat := rfl
@[simp] theorem State.hostSetByte_src (a : Word) (b : Byte) :
    (s.hostSetByte a b).src = s.src.write a.toNat b := rfl
@[simp] theorem State.hostSetByte_pending (a : Word) (b : Byte) :
    (s.hostSetByte a b).pending = s.pending := rfl
@[simp] theorem State.hostSetByte_reads (a : Word) (b : Byte) : (s.hostSetByte a b).reads = s.reads := rfl

/-! ### `State.resetBlock` -/

@[simp] theorem State.resetBlock_cfg : s.resetBlock.cfg = s.cfg := rfl
@[simp] theorem State.resetBlock_desc : s.resetBlock.desc = ⟨0, 0, 0, 0, 0, 0, 0⟩ := rfl
@[simp] theorem State.resetBlock_argX : s.resetBlock.argX = 0 := rfl
@[simp] theorem State.resetBlock_argY : s.resetBlock.argY = 0 := rfl
@[simp] theorem State.resetBlock_argT : s.resetBlock.argT = 0 := rfl
@[simp] theorem State.resetBlock_blk : s.resetBlock.blk = ⟨0, 0, 0, 0⟩ := rfl
@[simp] theorem State.resetBlock_res0 : s.resetBlock.res0 = 0 := rfl
@[simp] theorem State.resetBlock_res1 : s.resetBlock.res1 = 0 := rfl
@[simp] theorem State.resetBlock_descValid : s.resetBlock.descValid = false := rfl
@[simp] theorem State.resetBlock_oor : s.resetBlock.oor = false := rfl
@[simp] theorem State.resetBlock_err : s.resetBlock.err = false := rfl
@[simp] theorem State.resetBlock_errCode : s.resetBlock.errCode = 0 := rfl
@[simp] theorem State.resetBlock_lat : s.resetBlock.lat = Latch.zero := rfl
@[simp] theorem State.resetBlock_src : s.resetBlock.src = s.src := rfl
@[simp] theorem State.resetBlock_pending : s.resetBlock.pending = s.pending := rfl
@[simp] theorem State.resetBlock_reads : s.resetBlock.reads = s.reads := rfl

/-! ### `State.pushCommand` -/

@[simp] theorem State.pushCommand_cfg (w : Word) : (s.pushCommand w).cfg = s.cfg := rfl
@[simp] theorem State.pushCommand_desc (w : Word) : (s.pushCommand w).desc = s.desc := rfl
@[simp] theorem State.pushCommand_argX (w : Word) : (s.pushCommand w).argX = s.argX := rfl
@[simp] theorem State.pushCommand_argY (w : Word) : (s.pushCommand w).argY = s.argY := rfl
@[simp] theorem State.pushCommand_argT (w : Word) : (s.pushCommand w).argT = s.argT := rfl
@[simp] theorem State.pushCommand_blk (w : Word) : (s.pushCommand w).blk = s.blk := rfl
@[simp] theorem State.pushCommand_res0 (w : Word) : (s.pushCommand w).res0 = s.res0 := rfl
@[simp] theorem State.pushCommand_res1 (w : Word) : (s.pushCommand w).res1 = s.res1 := rfl
@[simp] theorem State.pushCommand_descValid (w : Word) : (s.pushCommand w).descValid = s.descValid := rfl
@[simp] theorem State.pushCommand_oor (w : Word) : (s.pushCommand w).oor = s.oor := rfl
@[simp] theorem State.pushCommand_err (w : Word) : (s.pushCommand w).err = s.err := rfl
@[simp] theorem State.pushCommand_errCode (w : Word) : (s.pushCommand w).errCode = s.errCode := rfl
@[simp] theorem State.pushCommand_lat (w : Word) : (s.pushCommand w).lat = s.lat := rfl
@[simp] theorem State.pushCommand_src (w : Word) : (s.pushCommand w).src = s.src := rfl
@[simp] theorem State.pushCommand_pending (w : Word) :
    (s.pushCommand w).pending = .write 4 0 w :: s.pending := rfl
@[simp] theorem State.pushCommand_reads (w : Word) : (s.pushCommand w).reads = s.reads := rfl

/-! ### `State.writeReg`: a host write reaches the descriptor, argument and block registers only -/

@[simp] theorem State.writeReg_cfg (r : Reg) (v : Word) : (s.writeReg r v).cfg = s.cfg := by
  cases r <;> rfl
@[simp] theorem State.writeReg_res0 (r : Reg) (v : Word) : (s.writeReg r v).res0 = s.res0 := by
  cases r <;> rfl
@[simp] theorem State.writeReg_res1 (r : Reg) (v : Word) : (s.writeReg r v).res1 = s.res1 := by
  cases r <;> rfl
@[simp] theorem State.writeReg_descValid (r : Reg) (v : Word) : (s.writeReg r v).descValid = s.descValid := by
  cases r <;> rfl
@[simp] theorem State.writeReg_oor (r : Reg) (v : Word) : (s.writeReg r v).oor = s.oor := by
  cases r <;> rfl
@[simp] theorem State.writeReg_err (r : Reg) (v : Word) : (s.writeReg r v).err = s.err := by
  cases r <;> rfl
@[simp] theorem State.writeReg_errCode (r : Reg) (v : Word) : (s.writeReg r v).errCode = s.errCode := by
  cases r <;> rfl
@[simp] theorem State.writeReg_lat (r : Reg) (v : Word) : (s.writeReg r v).lat = s.lat := by
  cases r <;> rfl
@[simp] theorem State.writeReg_src (r : Reg) (v : Word) : (s.writeReg r v).src = s.src := by
  cases r <;> rfl
@[simp] theorem State.writeReg_pending (r : Reg) (v : Word) : (s.writeReg r v).pending = s.pending := by
  cases r <;> rfl
@[simp] theorem State.writeReg_reads (r : Reg) (v : Word) : (s.writeReg r v).reads = s.reads := by
  cases r <;> rfl

/-! ### `State.fetchElement`: a fetch reaches `RES0`, the block registers, and `OOR` with `ERRCODE` -/

@[simp] theorem State.fetchElement_cfg (addr : Nat) : (s.fetchElement addr).cfg = s.cfg := by
  unfold State.fetchElement; split <;> rfl
@[simp] theorem State.fetchElement_desc (addr : Nat) : (s.fetchElement addr).desc = s.desc := by
  unfold State.fetchElement; split <;> rfl
@[simp] theorem State.fetchElement_argX (addr : Nat) : (s.fetchElement addr).argX = s.argX := by
  unfold State.fetchElement; split <;> rfl
@[simp] theorem State.fetchElement_argY (addr : Nat) : (s.fetchElement addr).argY = s.argY := by
  unfold State.fetchElement; split <;> rfl
@[simp] theorem State.fetchElement_argT (addr : Nat) : (s.fetchElement addr).argT = s.argT := by
  unfold State.fetchElement; split <;> rfl
@[simp] theorem State.fetchElement_res1 (addr : Nat) : (s.fetchElement addr).res1 = s.res1 := by
  unfold State.fetchElement; split <;> rfl
@[simp] theorem State.fetchElement_descValid (addr : Nat) : (s.fetchElement addr).descValid = s.descValid := by
  unfold State.fetchElement; split <;> rfl
@[simp] theorem State.fetchElement_err (addr : Nat) : (s.fetchElement addr).err = s.err := by
  unfold State.fetchElement; split <;> rfl
@[simp] theorem State.fetchElement_lat (addr : Nat) : (s.fetchElement addr).lat = s.lat := by
  unfold State.fetchElement; split <;> rfl
@[simp] theorem State.fetchElement_src (addr : Nat) : (s.fetchElement addr).src = s.src := by
  unfold State.fetchElement; split <;> rfl
@[simp] theorem State.fetchElement_pending (addr : Nat) : (s.fetchElement addr).pending = s.pending := by
  unfold State.fetchElement; split <;> rfl
@[simp] theorem State.fetchElement_reads (addr : Nat) : (s.fetchElement addr).reads = s.reads := by
  unfold State.fetchElement; split <;> rfl

@[simp] theorem State.fetchElement_res0 (addr : Nat) : (s.fetchElement addr).res0 = low32 addr := by
  unfold State.fetchElement; split <;> rfl

/-- The two things a fetch can do: zeros and the flag, or the bytes of the span. -/
theorem State.fetchElement_cases (addr : Nat) :
    (addressOutOfRange s.lat addr = true ∧
      s.fetchElement addr = ((s.setRes0 addr).setBlk (BlockRegs.ofBytes [])).flagOutOfRange) ∨
    (addressOutOfRange s.lat addr = false ∧
      s.fetchElement addr =
        (s.setRes0 addr).setBlk (BlockRegs.ofBytes (s.src.readSpan addr s.lat.span))) := by
  unfold State.fetchElement
  cases h : addressOutOfRange s.lat addr <;> simp

/-- A state is its fields: two states that agree on each are equal. -/
theorem State.ext_fields {s t : State}
    (h_cfg : s.cfg = t.cfg)
    (h_desc : s.desc = t.desc)
    (h_argX : s.argX = t.argX)
    (h_argY : s.argY = t.argY)
    (h_argT : s.argT = t.argT)
    (h_blk : s.blk = t.blk)
    (h_res0 : s.res0 = t.res0)
    (h_res1 : s.res1 = t.res1)
    (h_descValid : s.descValid = t.descValid)
    (h_oor : s.oor = t.oor)
    (h_err : s.err = t.err)
    (h_errCode : s.errCode = t.errCode)
    (h_lat : s.lat = t.lat)
    (h_src : s.src = t.src)
    (h_pending : s.pending = t.pending)
    (h_reads : s.reads = t.reads) :
    s = t := by
  cases s; cases t; simp_all

end Sys2Proof.Machine
end

