-- ==== Sys2Proof/Laws/Ops.lean ====
section
/-! SUPPORT. What each shared operation can do, said once: the inversion lemmas later proofs cite instead of
unfolding LOAD_DESC's checks, the resolver, the class selection and the host's accesses. -/

namespace Sys2Proof.Machine

/-! ## The configuration registers -/

/-- A configuration register shows a parameter its 32 bits hold (10_state.md R43). -/
theorem parameterWord_of_lt {r : Reg} {v : Nat} (h : v < 2 ^ 32) : parameterWord r v = low32 v := if_pos h

/-- Of any other parameter it shows the free value, whatever that is. -/
theorem parameterWord_of_ge {r : Reg} {v : Nat} (h : 2 ^ 32 ≤ v) :
    parameterWord r v = Config.wideParameter r.offset v := if_neg (Nat.not_lt.mpr h)

/-! ## LOAD_DESC -/

/-- All that a successful check says (40_control_and_descriptor.md R113). -/
theorem checkDescriptor_ok {c : Config} {d : DescRegs} {l : Latch} (h : checkDescriptor c d = .ok l) :
    c.bitsPerPixel d.format ∈ legalBpp ∧ bcFormatOk c d.format = true ∧ d.tileMode.toNat < 16 ∧
    0 < d.width.toNat ∧ 0 < d.height.toNat ∧
    elemExtent (c.isBlockCompressed d.format) d.width.toNat ≤ d.pitch.toNat ∧
    ∃ bsw, bankSwappedWidth c d.tileMode.toNat (c.bitsPerPixel d.format) d.pitch.toNat = .ok bsw ∧
      l = latchOf c d bsw := by
  unfold checkDescriptor at h
  split at h
  · cases h
  split at h
  · cases h
  split at h
  · cases h
  split at h
  · cases h
  rename_i h1 h2 h3 h4
  have h4' := not_or.mp h4
  have h5' := not_or.mp h4'.2
  split at h
  · cases h
  · rename_i bsw hb
    cases h
    exact ⟨by simpa using h1, by simpa using h2, by omega, by omega, by omega, by omega, bsw, hb, rfl⟩

/-- The errors a check can end in (60_exceptions.md R251). -/
theorem checkDescriptor_error {c : Config} {d : DescRegs} {e : ErrorKind}
    (h : checkDescriptor c d = .error e) :
    e = .unsupportedFormat ∨ e = .reservedTileMode ∨ e = .descriptorInvalid ∨
      bankSwappedWidth c d.tileMode.toNat (c.bitsPerPixel d.format) d.pitch.toNat = .error e := by
  unfold checkDescriptor at h
  split at h
  · cases h; simp
  split at h
  · cases h; simp
  split at h
  · cases h; simp
  split at h
  · cases h; simp
  split at h
  · rename_i e' hb; cases h; simp [hb]
  · cases h

/-- A format whose block check passes has a class exactly when it is block-compressed
(40_control_and_descriptor.md R121). -/
theorem classOf_isSome_of_bcFormatOk {c : Config} {f : Word} (h : bcFormatOk c f = true) :
    (c.classOf f).isSome = c.isBlockCompressed f := by
  unfold bcFormatOk at h
  unfold Config.classOf Config.isBlockCompressed
  rcases hb : c.bcEntry f with _ | _ | cls <;> simp_all

/-- The only error of the bank-swapped width (42_bank_pipe.md R147). -/
theorem bankSwappedWidth_error {c : Config} {m bpp pitch : Nat} {e : ErrorKind}
    (h : bankSwappedWidth c m bpp pitch = .error e) : e = .arithmeticFault := by
  unfold bankSwappedWidth unhalvedSwapWidth at h
  split at h
  · split at h
    · rename_i e' h'
      cases h
      split at h'
      · cases h'; rfl
      · cases h'
    · cases h
  · cases h

/-- The halving loop stops below its limit when it has rounds enough (42_bank_pipe.md R147). -/
theorem halveBelow_lt {limit : Nat} (hl : 0 < limit) :
    ∀ {fuel w : Nat}, w ≤ fuel → halveBelow limit fuel w < limit
  | 0, w, h => by
    simp only [halveBelow]
    omega
  | fuel + 1, w, h => by
    unfold halveBelow
    split
    · refine halveBelow_lt hl ?_
      have : w >>> 1 = w / 2 := Nat.shiftRight_succ w 0
      omega
    · omega

/-- With a legal bpp no divisor of the bank-swapped width is 0, in any configuration with a pipe: the
division by 0 that 42_bank_pipe.md R147 provides for does not occur. -/
theorem bankSwappedWidth_ok {c : Config} (hp : 0 < c.pipes) {bpp : Nat} (hb : 0 < bpp) (m pitch : Nat) :
    ∃ w, bankSwappedWidth c m bpp pitch = .ok w := by
  have hs : slicesPerTile c bpp = 1 := by
    unfold slicesPerTile
    split
    · exact max_eq_left (Nat.div_le_self _ _)
    · rfl
  have hn : 0 < numSamples m := by unfold numSamples; split <;> omega
  have ha : 0 < aspect m := by unfold aspect; split <;> [omega; (split <;> omega)]
  have hd : ¬ (heightBytes c m bpp = 0 ∨ bytesPerTileSlice c m bpp = 0) := by
    unfold heightBytes bytesPerTileSlice
    rw [hs, Nat.div_one, Nat.div_one]
    have h1 : 0 < numSamples m * aspect m * c.pipes * bpp := by positivity
    have h2 : 0 < numSamples m * (8 * bpp) := by positivity
    omega
  unfold bankSwappedWidth unhalvedSwapWidth
  rw [if_neg hd]
  cases isBankSwapped m <;> simp

/-! ## The resolver -/

/-- All that a resolved element says (43_address_resolver.md R170, R171). -/
theorem resolveElement_ok {s : State} {addr : Nat} (h : resolveElement s = .ok addr) :
    s.x < s.lat.elemW ∧ s.y < s.lat.elemH ∧ resolveAddr s.cfg s.lat s.x s.y = .ok addr := by
  unfold resolveElement coordInRange at h
  split at h
  · rename_i hc
    simp only [Bool.and_eq_true, decide_eq_true_eq] at hc
    exact ⟨hc.1, hc.2, h⟩
  · cases h

/-- The errors of the macro-tiled class (43_address_resolver.md R174, R183, R184). -/
theorem macroAddr_error {c : Config} {l : Latch} {x y : Nat} {e : ErrorKind}
    (h : macroAddr c l x y = .error e) :
    (e = .splitAmbiguous ∧ splitRefused c l = true) ∨
      (e = .arithmeticFault ∧ isBankSwapped l.mode = true ∧ l.bsw = 0) := by
  unfold macroAddr bankSwap at h
  split at h
  · rename_i hs
    cases h
    exact .inl ⟨rfl, hs⟩
  · simp only at h
    split at h
    · rename_i e' h'
      cases h
      split at h'
      · rename_i hm
        split at h'
        · rename_i hb
          cases h'
          exact .inr ⟨rfl, hm, hb⟩
        · cases h'
      · cases h'
    · cases h

/-- The errors a resolving command can raise once its descriptor is loaded (60_exceptions.md R264). -/
theorem resolveElement_error {s : State} {e : ErrorKind} (h : resolveElement s = .error e) :
    e = .coordinateOutOfRange ∨ e = .splitAmbiguous ∨ e = .arithmeticFault := by
  unfold resolveElement at h
  split at h
  · unfold resolveAddr at h
    split at h
    · cases h
    · cases h
    · rcases macroAddr_error h with ⟨rfl, -⟩ | ⟨rfl, -⟩ <;> simp
  · cases h; simp

/-- The address of a macro-tiled element that resolves (43_address_resolver.md R174). -/
theorem macroAddr_ok {c : Config} {l : Latch} {x y addr : Nat} (h : macroAddr c l x y = .ok addr) :
    splitRefused c l = false ∧ ∃ bank, bankSwap c l (swizzledPipeBank c l x y).2 x = .ok bank ∧
      addr = assemble c (elemOffset c l x y) (macroTileOffset c l x y)
        (swizzledPipeBank c l x y).1 bank := by
  unfold macroAddr at h
  split at h
  · cases h
  · rename_i hs
    simp only at h
    split at h
    · cases h
    · rename_i bank hb
      cases h
      exact ⟨by simpa using hs, bank, hb, rfl⟩

/-! ## The decoder's class -/

/-- Where a class comes from (44_block_decoder.md R210). -/
theorem decodeClass_ok {s : State} {sel : Option BcClass} {cls : BcClass}
    (h : decodeClass s sel = .ok cls) :
    sel = some cls ∨ (sel = none ∧ s.descValid = true ∧ s.lat.bcClass = some cls) := by
  unfold decodeClass at h
  split at h
  · cases h; exact .inl rfl
  · split at h
    · rename_i hv
      split at h
      · rename_i k hk
        cases h
        exact .inr ⟨rfl, hv, hk⟩
      · cases h
    · cases h

/-- The errors of the class selection, in their order (60_exceptions.md R264). -/
theorem decodeClass_error {s : State} {sel : Option BcClass} {e : ErrorKind}
    (h : decodeClass s sel = .error e) :
    sel = none ∧ ((e = .descriptorNotLoaded ∧ s.descValid = false) ∨
      (e = .formatClassMismatch ∧ s.descValid = true ∧ s.lat.bcClass = none)) := by
  unfold decodeClass at h
  split at h
  · cases h
  · refine ⟨rfl, ?_⟩
    split at h
    · rename_i hv
      split at h
      · cases h
      · rename_i hk
        cases h
        exact .inr ⟨rfl, hv, hk⟩
    · rename_i hv
      cases h
      exact .inl ⟨rfl, by simpa using hv⟩

/-! ## The host's accesses -/

/-- A register is found at its own offset (10_state.md R32). -/
@[simp] theorem Reg.atOffset_offset (r : Reg) : Reg.atOffset r.offset = some r := by
  cases r <;> rfl

/-- Each register's offset is a 4-byte-aligned one of the window (10_state.md R32). -/
theorem Reg.offset_ok (r : Reg) : alignedWord 4 r.offset = true ∧ inWindow r.offset = true := by
  cases r <;> decide

/-- An access that goes on is 32 bits wide, aligned and in the window (20_memory.md R76). -/
theorem checkedAccess_next {width offset : Nat} {go : Host.Outcome State Fault Refusal} {t : State}
    (h : checkedAccess width offset go = .next t) :
    alignedWord width offset = true ∧ inWindow offset = true ∧ go = .next t := by
  unfold checkedAccess at h
  split at h
  · cases h
  · split at h
    · cases h
    · rename_i h1 h2
      exact ⟨by simpa using h1, by simpa using h2, h⟩

/-- An aligned access to the window is done. -/
theorem checkedAccess_of_ok {width offset : Nat} (go : Host.Outcome State Fault Refusal)
    (ha : alignedWord width offset = true) (hw : inWindow offset = true) :
    checkedAccess width offset go = go := by
  simp [checkedAccess, ha, hw]

/-- All that a step that goes on can be: the block waits, or the host's next action is done. -/
theorem step_next {s t : State} (h : step s = .next t) :
    s.cfg.Legal ∧ ((s.pending = [] ∧ t = s) ∨
      ∃ a rest, s.pending = a :: rest ∧ runHostStep a { s with pending := rest } = .next t) := by
  unfold step takeHostStep at h
  split at h
  · rename_i hl
    refine ⟨hl, ?_⟩
    split at h
    · rename_i hp
      cases h
      exact .inl ⟨hp, rfl⟩
    · rename_i a rest hp
      exact .inr ⟨a, rest, hp, h⟩
  · cases h

/-- All that a host action that goes on can be. -/
theorem runHostStep_next {a : HostStep} {s t : State} (h : runHostStep a s = .next t) :
    (∃ width offset v, a = .write width offset v ∧ alignedWord width offset = true ∧
      inWindow offset = true ∧ hostWrite offset v s = .next t) ∨
    (∃ width offset, a = .read width offset ∧ alignedWord width offset = true ∧
      inWindow offset = true ∧ t = s.hostRead offset) ∨
    (∃ addr b, a = .setByte addr b ∧ t = s.hostSetByte addr b) ∨
    (a = .reset ∧ t = s.resetBlock) := by
  cases a with
  | write width offset v =>
    obtain ⟨h1, h2, h3⟩ := checkedAccess_next h
    exact .inl ⟨width, offset, v, rfl, h1, h2, h3⟩
  | read width offset =>
    obtain ⟨h1, h2, h3⟩ := checkedAccess_next h
    cases h3
    exact .inr (.inl ⟨width, offset, rfl, h1, h2, rfl⟩)
  | setByte addr b => cases h; exact .inr (.inr (.inl ⟨addr, b, rfl, rfl⟩))
  | reset => cases h; exact .inr (.inr (.inr ⟨rfl, rfl⟩))

/-- All that a host write can be: a command, an illegal word, a register store, or nothing. -/
theorem hostWrite_next {offset : Nat} {v : Word} {s t : State} (h : hostWrite offset v s = .next t) :
    (Reg.atOffset offset = some .cmd ∧ ∃ i, decode v = .ok i ∧ exec i s = .next t) ∨
    (Reg.atOffset offset = some .cmd ∧ (∃ e, decode v = .error e) ∧ t = s.raise .illegalCommand) ∨
    (∃ r, r ≠ .cmd ∧ Reg.atOffset offset = some r ∧ t = s.writeReg r v) ∨
    (Reg.atOffset offset = none ∧ t = s) := by
  unfold hostWrite at h
  split at h
  · rename_i hr
    unfold runCommand at h
    split at h
    · rename_i i hi
      exact .inl ⟨hr, i, hi, h⟩
    · rename_i e he
      cases h
      exact .inr (.inl ⟨hr, ⟨e, he⟩, rfl⟩)
  · rename_i r hne hr
    cases h
    exact .inr (.inr (.inl ⟨r, hne, hr, rfl⟩))
  · rename_i hr
    cases h
    exact .inr (.inr (.inr ⟨hr, rfl⟩))

end Sys2Proof.Machine
end

