-- ==== Sys2Proof/Laws/PerInstr.lean ====
section
/-! SUPPORT. A statement made command by command: where a command's encoding has its bits
(30_encoding.md R90, R93, R94). -/

namespace Sys2Proof.Laws.FieldPlacement

/-- The encoding of a command holds its `OPCODE` in [7:0] and its `BCSEL` in [9:8]; the rest is 0. -/
def Statement (i : Instr) : Prop :=
  opcodeOf (encode i) = i.opcode ∧ bcselOf (encode i) = i.bcsel ∧ reservedOf (encode i) = 0

theorem nop : Statement .nop := by unfold Statement; decide
theorem loadDesc : Statement .loadDesc := by unfold Statement; decide
theorem clearStatus : Statement .clearStatus := by unfold Statement; decide
theorem fmtLookup : Statement .fmtLookup := by unfold Statement; decide
theorem pipe : Statement .pipe := by unfold Statement; decide
theorem bank : Statement .bank := by unfold Statement; decide
theorem rotation : Statement .rotation := by unfold Statement; decide
theorem bswidth : Statement .bswidth := by unfold Statement; decide
theorem pixidx : Statement .pixidx := by unfold Statement; decide
theorem resolve : Statement .resolve := by unfold Statement; decide
theorem fetch : Statement .fetch := by unfold Statement; decide
theorem decode (sel : Option BcClass) : Statement (.decode sel) := by
  unfold Statement
  rcases sel with _ | _ | _ | _ <;> decide
theorem fetchDecode : Statement .fetchDecode := by unfold Statement; decide

end Sys2Proof.Laws.FieldPlacement
end

