-- ==== Sys2Proof/Machine/Surface.lean ====
section
/-! DEFINITION. The host protocol of 70_reset_and_hazards.md R285 and R290-R292: how a host boots the block
and decodes a surface into its output buffer. It is the host's software, outside the block (00_scope.md
R5), written over `runSteps`; nothing the block does refers to it. -/

namespace Sys2Proof.Machine

/-- The surface a host decodes (70_reset_and_hazards.md R285): the values of SETDESC. -/
structure SurfaceParams where
  width    : Word
  height   : Word
  pitch    : Word
  tileMode : Word
  swizzle  : Word
  format   : Word
  dataSize : Word
  deriving DecidableEq, Repr

/-- The host's side of a surface decode: the block, and the output buffer (10_state.md R54). -/
structure HostRun where
  block : State
  out   : Memory
  deriving DecidableEq, Repr

/-- Boot: the descriptor writes and LOAD_DESC (70_reset_and_hazards.md R285). -/
def bootSteps (p : SurfaceParams) : List HostStep :=
  (AsmLine.loadDesc p.width p.height p.pitch p.tileMode p.swizzle p.format p.dataSize).expand

/-- A texel is stored little-endian at `out[4*(y*width + x)]` (70_reset_and_hazards.md R290, R292). -/
def storeTexel (out : Memory) (width x y : Nat) (texel : Word) : Memory :=
  let a := 4 * (y * width + x)
  ((((out.write a (texel.extractLsb' 0 8)).write (a + 1) (texel.extractLsb' 8 8)).write (a + 2)
    (texel.extractLsb' 16 8)).write (a + 3) (texel.extractLsb' 24 8))

/-- The host does `steps`, then stores the texel it makes of the block's state. -/
def hostTexel (steps : List HostStep) (texelOf : State → Word) (width x y : Nat) (r : HostRun) :
    Host.Outcome HostRun Fault Refusal :=
  match runSteps steps r.block with
  | .next t => .next ⟨t, storeTexel r.out width x y (texelOf t)⟩
  | .fault e => .fault e
  | .refused e => .refused e

/-- A host loop over a list, ending at the first stop. -/
def hostLoop {α : Type} (body : α → HostRun → Host.Outcome HostRun Fault Refusal) :
    List α → HostRun → Host.Outcome HostRun Fault Refusal
  | [], r => .next r
  | a :: rest, r =>
    match body a r with
    | .next r' => hostLoop body rest r'
    | .fault e => .fault e
    | .refused e => .refused e

/-- Coordinates in raster order (70_reset_and_hazards.md R290). -/
def raster (w h : Nat) : List (Nat × Nat) :=
  ((List.range h).map fun y => (List.range w).map fun x => (x, y)).flatten

/-- The texels of a 4×4 footprint inside the surface, in the loop's order: the clipping of
70_reset_and_hazards.md R290. -/
def clippedTexels (width height bx byy : Nat) : List (Nat × Nat) :=
  (raster 4 4).filter fun t => decide (4 * bx + t.1 < width) && decide (4 * byy + t.2 < height)

/-- The block's texels: the first by FETCH_DECODE, the others by DECODE with `BCSEL` 0, which re-uses the
fetched block (70_reset_and_hazards.md R290). -/
def blockBody (width height : Nat) (b : Nat × Nat) (r : HostRun) : Host.Outcome HostRun Fault Refusal :=
  match clippedTexels width height b.1 b.2 with
  | [] => .next r
  | first :: others =>
    match hostTexel ((AsmLine.fetchDecode (low32 b.1) (low32 b.2) (BitVec.ofNat 2 first.1)
        (BitVec.ofNat 2 first.2)).expand) State.res1 width (4 * b.1 + first.1) (4 * b.2 + first.2) r with
    | .fault e => .fault e
    | .refused e => .refused e
    | .next r' =>
      hostLoop (fun (t : Nat × Nat) q =>
        hostTexel (setTSteps (BitVec.ofNat 2 t.1) (BitVec.ofNat 2 t.2) ++ [issue (.decode none)])
          State.res1 width (4 * b.1 + t.1) (4 * b.2 + t.2) q) others r'

/-- One texel of an uncompressed surface: CLEAR_STATUS, FETCH, then the host's unpacker on the `bpp/8`
bytes, or a zero texel when the address was out of range (70_reset_and_hazards.md R290, R291). -/
def pixelBody (unpack : Word → List Byte → Word) (width : Nat) (p : Nat × Nat) (r : HostRun) :
    Host.Outcome HostRun Fault Refusal :=
  hostTexel (issue .clearStatus :: (AsmLine.fetch (low32 p.1) (low32 p.2)).expand)
    (fun t => if t.oor then 0 else unpack t.lat.format (t.blk.bytes.take t.lat.span)) width p.1 p.2 r

/-- The unpacker of format 0x1A: bytes 0 to 3 are R, G, B, A (70_reset_and_hazards.md R291, which takes
it from general knowledge). The spec gives no other format's channel order. -/
def unpackRgba8 (bytes : List Byte) : Word := packAt bytes 0

/-- The surface decode loop (70_reset_and_hazards.md R290). A failed boot stops it with no texel stored;
`unpack` is the host's PixelUnpacker (R291). -/
def decodeSurface (unpack : Word → List Byte → Word) (p : SurfaceParams) (s : State) :
    Host.Outcome HostRun Fault Refusal :=
  match runSteps (bootSteps p) s with
  | .fault e => .fault e
  | .refused e => .refused e
  | .next t =>
    if t.descValid = false then .next ⟨t, []⟩
    else if t.lat.isBC then
      hostLoop (blockBody p.width.toNat p.height.toNat) (raster t.lat.elemW t.lat.elemH) ⟨t, []⟩
    else
      hostLoop (pixelBody unpack p.width.toNat) (raster p.width.toNat p.height.toNat) ⟨t, []⟩

end Sys2Proof.Machine
end

