-- ==== Sys2Proof/Tests/Slice0.lean ====
section
/-! SUPPORT. The model's own tests: an ill-formed term refused by each check, words of every command written
out from 30_encoding.md R90 and R94, one-step tests with expected values from 95_test_vectors.md, and for each
statement that has hypotheses a concrete state that meets them. -/

namespace Sys2Proof.Machine.Tests

-- One theorem after another: the many small evaluations need no threads of their own.
set_option Elab.async false

/-! ## Helpers -/

/-- The state an outcome goes on with, if it does. -/
def nextOf : Host.Outcome State Fault Refusal → Option State
  | .next t => some t
  | .fault _ => none
  | .refused _ => none

/-- The state an outcome goes on with, or the reset state. -/
def after (o : Host.Outcome State Fault Refusal) : State := (nextOf o).getD State.reset

theorem eq_next_after {o : Host.Outcome State Fault Refusal} (h : (nextOf o).isSome = true) :
    o = .next (after o) := by
  cases o with
  | next t => rfl
  | fault r => simp [nextOf] at h
  | refused r => simp [nextOf] at h

theorem eq_next_of {o : Host.Outcome State Fault Refusal} {t : State} (h : nextOf o = some t) :
    o = .next t := by
  cases o with
  | next u => simpa [nextOf] using h
  | fault r => simp [nextOf] at h
  | refused r => simp [nextOf] at h

/-- A block with parameters `c` whose live descriptor is `w, h, p, m, s, f, n` and whose arguments are
`x, y, t`, before any LOAD_DESC. -/
def live (c : Config) (w h p m s f n x y t : Nat) : State :=
  { State.resetWith c with
    desc := ⟨low32 w, low32 h, low32 p, BitVec.ofNat 5 m, low32 s, low32 f, low32 n⟩
    argX := low32 x
    argY := low32 y
    argT := BitVec.ofNat 4 t }

/-- `live` after LOAD_DESC. -/
def loaded (c : Config) (w h p m s f n x y t : Nat) : State := after (execLoadDesc (live c w h p m s f n x y t))

/-- The 64×64 surface of 95_test_vectors.md section 2.4, in mode `m`: 32 bits a pixel, pitch 64. -/
def surface (m x y : Nat) : State := loaded Config.default 64 64 64 m 0 0x1A 65536 x y 0

/-- The 4×4 BC1 surface of 95_test_vectors.md sections 2.1 and 2.6: one block, `n` bytes. -/
def bc1Surface (n x y t : Nat) : State := loaded Config.default 4 4 1 0 0 0x31 n x y t

/-- A block whose registers hold `b0, b1, b2, b3`, decoding texel `t`. -/
def withBlock (b0 b1 b2 b3 t : Nat) : State :=
  { State.reset with blk := ⟨low32 b0, low32 b1, low32 b2, low32 b3⟩, argT := BitVec.ofNat 4 t }

/-- `s` with the host's next action `h`. -/
def about (h : HostStep) (s : State) : State := { s with pending := [h] }

def eightBanks : Config := { Config.default with banks := 8 }
/-- A code of the block-compressed set without a class, at 64 bits an element (40_control_and_descriptor.md
R121). -/
def classless : Config := { Config.default with bcSet := [(0x31#32, none)] }

def noSplit : Config := { Config.default with slicePolicy := .noSlice }

/-- A row of one byte: the swap width of every bank-swapped mode is 0 (42_bank_pipe.md R147). -/
def tinyRow : Config := { Config.default with rowSize := 1 }

/-- What `Latch.Checked` asks, in a form that can be evaluated. -/
abbrev latchCheck (c : Config) (l : Latch) : Prop :=
  l.bpp ∈ [8, 16, 32, 64, 128] ∧ l.bpp = c.bitsPerPixel l.format ∧ l.bcClass = c.classOf l.format ∧
  (∀ cls ∈ [BcClass.bc1, BcClass.bc2, BcClass.bc3], l.bcClass = some cls → l.bpp = bcBits cls) ∧
  0 < l.width.toNat ∧ 0 < l.height.toNat ∧ l.elemW = elemExtent l.isBC l.width.toNat ∧
  l.elemH = elemExtent l.isBC l.height.toNat ∧ l.elemW ≤ l.pitch.toNat ∧
  l.tileClass = tileClassOf l.mode ∧
  (bankSwappedWidth c l.mode l.bpp l.pitch.toNat).toOption = some l.bsw

theorem toOption_eq_some {α : Type} {e : Except ErrorKind α} {a : α} (h : e.toOption = some a) : e = .ok a := by
  cases e with
  | ok b => simpa [Except.toOption] using h
  | error r => simp [Except.toOption] at h

theorem checked_of {c : Config} {l : Latch} (h : latchCheck c l) : Latch.Checked c l := by
  obtain ⟨h1, h2, h3, h4, h5, h6, h7, h8, h9, h10, h11⟩ := h
  exact ⟨h1, h2, h3, fun cls hc => h4 cls (by cases cls <;> simp) hc, h5, h6, h7, h8, h9, h10,
    toOption_eq_some h11⟩

/-- What `State.Inv` asks of a state with a valid latch, in a form that can be evaluated. -/
abbrev loadedCheck (s : State) : Prop :=
  s.cfg.Legal ∧ Memory.wf s.src ∧ s.descValid = true ∧ latchCheck s.cfg s.lat ∧
  s.errCode.toNat ≤ 0x0A ∧ (s.errCode = 0 ↔ (s.err = false ∧ s.oor = false))

theorem inv_of {s : State} (h : loadedCheck s) : s.Inv := by
  obtain ⟨h1, h2, h3, h4, h5, h6⟩ := h
  exact ⟨h1, h2, fun h => by simp [h3] at h, fun _ => checked_of h4, h5, h6⟩

theorem eight_banks_inv : (State.resetWith eightBanks).Inv :=
  ⟨by decide +kernel, Memory.wf_nil, fun _ => rfl, fun h => by simp [State.resetWith] at h,
    by decide, by decide⟩

/-! ## The checks refuse ill-formed terms -/

theorem test_default_configuration_is_legal : Config.default.Legal := by decide +kernel
theorem test_eight_banks_are_legal : eightBanks.Legal := by decide +kernel
theorem test_tiny_row_is_legal : tinyRow.Legal := by decide +kernel
theorem test_four_pipes_are_refused : ¬ { Config.default with pipes := 4 }.Legal := by decide +kernel
theorem test_sixteen_banks_are_refused : ¬ { Config.default with banks := 16 }.Legal := by decide +kernel
theorem test_group_of_100_is_refused : ¬ { Config.default with groupSize := 100 }.Legal := by decide +kernel
theorem test_group_of_0_is_refused : ¬ { Config.default with groupSize := 0 }.Legal := by decide +kernel
theorem test_row_of_0_is_refused : ¬ { Config.default with rowSize := 0 }.Legal := by decide +kernel
theorem test_split_of_0_is_refused : ¬ { Config.default with splitSize := 0 }.Legal := by decide +kernel
theorem test_wide_sizes_are_legal :
    { Config.default with groupSize := 2 ^ 32, rowSize := 2 ^ 33, swapSize := 2 ^ 32, splitSize := 2 ^ 40 }.Legal := by
  decide +kernel
theorem test_short_format_table_is_refused : ¬ { Config.default with formatBpp := [8] }.Legal := by
  decide +kernel
theorem test_24_bit_format_is_refused :
    ¬ { Config.default with formatBpp := List.replicate 64 24 }.Legal := by decide +kernel
theorem test_code_listed_twice_is_refused :
    ¬ { Config.default with bcSet := [(0x31#32, some .bc1), (0x31#32, none)] }.Legal := by decide +kernel
theorem test_repeated_bit_is_no_permutation : ¬ PixelRow.IsPermutation ⟨.x0, .x0, .x1, .x2, .y0, .y1⟩ := by
  decide
theorem test_byte_access_is_ill_formed : (HostStep.write 1 0 0).wellFormed = false := by decide
theorem test_unaligned_access_is_ill_formed : (HostStep.read 4 6).wellFormed = false := by decide
theorem test_offset_outside_is_ill_formed : (HostStep.read 4 0x80).wellFormed = false := by decide
theorem test_last_offset_is_well_formed : (HostStep.read 4 0x7C).wellFormed = true := by decide
theorem test_unsorted_memory_is_not_canonical : ¬ Memory.wf [(4, 1), (2, 1)] := by decide
theorem test_zero_byte_is_not_canonical : ¬ Memory.wf [(2, 0)] := by decide
theorem test_illegal_configuration_stops :
    step { State.reset with cfg := { Config.default with pipes := 4 } } = .refused .illegalConfiguration := by
  unfold step
  rw [if_neg (by decide +kernel)]
theorem test_access_outside_the_window_faults :
    step (about (.read 4 0x80) State.reset) = .fault (.outsideWindow 0x80) := by
  unfold step
  rw [if_pos (by decide +kernel)]
  rfl

/-! ## Decoding (30_encoding.md R90, R94: `OPCODE` in [7:0], `BCSEL` in [9:8]) -/

theorem test_decode_nop : decode 0b00000000000000000000000000000000#32 = .ok .nop := by rfl
theorem test_decode_load_desc : decode 0b00000000000000000000000000000001#32 = .ok .loadDesc := by rfl
theorem test_decode_clear_status : decode 0b00000000000000000000000000000010#32 = .ok .clearStatus := by rfl
theorem test_decode_fmt_lookup : decode 0b00000000000000000000000000000011#32 = .ok .fmtLookup := by rfl
theorem test_decode_pipe : decode 0b00000000000000000000000000010000#32 = .ok .pipe := by rfl
theorem test_decode_bank : decode 0b00000000000000000000000000010001#32 = .ok .bank := by rfl
theorem test_decode_rotation : decode 0b00000000000000000000000000010010#32 = .ok .rotation := by rfl
theorem test_decode_bswidth : decode 0b00000000000000000000000000010011#32 = .ok .bswidth := by rfl
theorem test_decode_pixidx : decode 0b00000000000000000000000000100000#32 = .ok .pixidx := by rfl
theorem test_decode_resolve : decode 0b00000000000000000000000000100001#32 = .ok .resolve := by rfl
theorem test_decode_fetch : decode 0b00000000000000000000000000100010#32 = .ok .fetch := by rfl
theorem test_decode_decode : decode 0b00000000000000000000000000110000#32 = .ok (.decode none) := by rfl
theorem test_decode_decode_bc1 : decode 0b00000000000000000000000100110000#32 = .ok (.decode (some .bc1)) := by
  rfl
theorem test_decode_decode_bc2 : decode 0b00000000000000000000001000110000#32 = .ok (.decode (some .bc2)) := by
  rfl
theorem test_decode_decode_bc3 : decode 0b00000000000000000000001100110000#32 = .ok (.decode (some .bc3)) := by
  rfl
theorem test_decode_fetch_decode : decode 0b00000000000000000000000000110001#32 = .ok .fetchDecode := by rfl
theorem test_decode_reserved_opcode : decode 0x00000004#32 = .error .reservedOpcode := by rfl
theorem test_decode_stray_bcsel : decode 0x00000110#32 = .error .strayBcsel := by rfl
theorem test_decode_reserved_bit : decode 0x80000010#32 = .error .reservedBits := by rfl
theorem test_table_word : decodeTableWord 32 0x331 = none ∧
    decodeTableWord 32 0x330 = some (.decode (some .bc3)) := by decide

/-! ## One step of each command (95_test_vectors.md) -/

/-- Section 2.1. -/
theorem test_nop : nextOf (execNop (surface 4 0 0)) = some (surface 4 0 0) := by decide +kernel

/-- Section 2.1, 90_conflicts.md C9. -/
theorem test_clear_status :
    (after (execClearStatus { surface 4 0 0 with oor := true, err := true, errCode := 6 })).statusWord =
      0x20020001#32 := by decide +kernel

/-- Section 2.1. -/
theorem test_load_desc :
    (loaded Config.default 16 16 4 4 0 0x433 256 0 0 0).statusWord = 0x801E0001#32 ∧
    (loaded Config.default 4 4 1 0 0 0x31 8 0 0 0).statusWord = 0x400C0001#32 := by decide +kernel
theorem test_load_desc_refuses :
    (loaded Config.default 64 64 64 4 0 0 16384 0 0 0).statusWord = 0x00000104#32 ∧
    (loaded Config.default 64 64 64 16 0 0x1A 16384 0 0 0).statusWord = 0x00000204#32 ∧
    (loaded Config.default 8 8 2 0 0 0x71 512 0 0 0).statusWord = 0x00000304#32 := by decide +kernel

/-- Section 2.1: the class is looked up with the whole code, the bits per pixel with its low six bits. -/
theorem test_fmt_lookup :
    (after (execFmtLookup (live Config.default 0 0 0 0 0 0x433 0 0 0 0))).res0 = 128#32 ∧
    (after (execFmtLookup (live Config.default 0 0 0 0 0 0x433 0 0 0 0))).res1 = 7#32 ∧
    (after (execFmtLookup (live Config.default 0 0 0 0 0 0x71 0 0 0 0))).res0 = 64#32 ∧
    (after (execFmtLookup (live Config.default 0 0 0 0 0 0x71 0 0 0 0))).res1 = 0#32 := by decide +kernel

/-- Section 2.2. -/
theorem test_pipe :
    (after (execPipe (live Config.default 0 0 0 0 0 0 0 0xFFFFFFFF 0 0))).res0 = 1#32 ∧
    (after (execPipe (live Config.default 0 0 0 0 0 0 0 8 8 0))).res0 = 0#32 := by decide +kernel

/-- Section 2.2. -/
theorem test_bank_four :
    (after (execBank (live Config.default 0 0 0 0 0 0 0 0 16 0))).res0 = 2#32 ∧
    (after (execBank (live Config.default 0 0 0 0 0 0 0 63 0 0))).res0 = 3#32 := by decide +kernel
theorem test_bank_eight :
    (after (execBank (live eightBanks 0 0 0 0 0 0 0 0 64 0))).res0 = 3#32 ∧
    (after (execBank (live eightBanks 0 0 0 0 0 0 0 24 40 0))).res0 = 1#32 := by decide +kernel

/-- Section 2.2. -/
theorem test_rotation :
    (after (execRotation (surface 4 0 0))).res0 = 2#32 ∧ (after (execRotation (surface 15 0 0))).res0 = 1#32 ∧
    (after (execRotation (loaded eightBanks 64 64 64 11 0 0x1A 0 0 0 0))).res0 = 6#32 := by decide +kernel
theorem test_rotation_needs_descriptor : (after (execRotation State.reset)).statusWord = 0x404#32 := by
  decide +kernel

/-- Section 2.2. -/
theorem test_bswidth :
    (after (execBswidth (loaded Config.default 64 64 256 8 0 0x1A 0 0 0 0))).res0 = 128#32 ∧
    (after (execBswidth (loaded eightBanks 64 64 256 8 0 0x1A 0 0 0 0))).res0 = 256#32 ∧
    (after (execBswidth (surface 4 0 0))).res0 = 0#32 := by decide +kernel

/-- Section 2.3. -/
theorem test_pixidx :
    (after (execPixidx (surface 4 0xFFFFFFFF 5))).res0 = 47#32 ∧
    (after (execPixidx (loaded Config.default 8 8 8 2 0 0x33 0 5 6 0))).res0 = 58#32 := by decide +kernel

/-- Section 2.4. -/
theorem test_resolve :
    (after (execResolve (surface 4 63 0))).res0 = 3884#32 ∧
    (after (execResolve (surface 7 63 63))).res0 = 57596#32 ∧
    (after (execResolve (surface 3 0 8))).res0 = 8192#32 ∧
    (after (execResolve (loaded Config.default 256 1 256 8 0 0x1A 65536 224 0 0))).res0 = 14848#32 := by
  decide +kernel
theorem test_resolve_errors :
    (after (execResolve (loaded Config.default 64 64 64 4 0 0x1A 14588 63 63 0))).statusWord = 0x20020603#32 ∧
    (after (execResolve (surface 4 64 0))).statusWord = 0x20020505#32 ∧
    (after (execResolve (loaded Config.default 256 256 64 7 0 0x33 1048576 0 0 0))).statusWord =
      0x801E0805#32 := by decide +kernel

/-- Section 2.5, with the bytes of element (1, 1) only. -/
theorem test_fetch :
    (after (execFetch { loaded Config.default 8 8 2 0 0 0x33 64 1 1 0 with
      src := (List.range 16).map fun i => (48 + i, BitVec.ofNat 8 (48 + i)) })).blk =
      ⟨0x33323130#32, 0x37363534#32, 0x3B3A3938#32, 0x3F3E3D3C#32⟩ := by decide +kernel
theorem test_fetch_out_of_range :
    let t := after (execFetch { loaded Config.default 8 8 8 0 0 0x1A 255 7 7 0 with blk := ⟨1, 2, 3, 4⟩ })
    t.statusWord = 0x20000603#32 ∧ t.res0 = 252#32 ∧ t.blk = ⟨0, 0, 0, 0⟩ := by decide +kernel

/-- Section 2.6: the block `00 F8 1F 00 E4 E4 E4 E4`, and the BC3 block of that section. -/
theorem test_decode :
    (after (execDecode (some .bc1) (withBlock 0x001FF800 0xE4E4E4E4 0 0 3))).res1 = 0xFFAA0055#32 ∧
    (after (execDecode (some .bc3)
      (withBlock 0xC68800FF 0xFAC688FA 0xFFFF0000 0xE4E4E4E4 2))).res1 = 0xDA7F7F7F#32 ∧
    (after (execDecode (some .bc2)
      (withBlock 0x76543210 0xFEDCBA98 0x0000FFFF 0 5))).res1 = 0x55FFFFFF#32 := by decide +kernel
theorem test_decode_errors :
    (after (execDecode none State.reset)).statusWord = 0x404#32 ∧
    (after (execDecode none (loaded Config.default 8 8 8 0 0 0x1A 256 0 0 0))).statusWord = 0x20000A05#32 := by
  decide +kernel

/-- Section 2.6. -/
theorem test_fetch_decode :
    (after (execFetchDecode { bc1Surface 8 0 0 3 with
      src := [(0, 0xFF), (1, 0xFF), (4, 0xE4), (5, 0xE4), (6, 0xE4), (7, 0xE4)] })).res1 =
      0xFF555555#32 := by decide +kernel
theorem test_fetch_decode_out_of_range :
    let t := after (execFetchDecode { bc1Surface 7 0 0 0 with res1 := 9, blk := ⟨1, 1, 1, 1⟩ })
    t.statusWord = 0x400C0603#32 ∧ t.res1 = 0#32 ∧ t.blk = ⟨0, 0, 0, 0⟩ := by decide +kernel

/-- Section 2.7: an illegal word keeps an earlier `OOR`. -/
theorem test_illegal_command :
    (after (runCommand 4 { surface 4 0 0 with oor := true, errCode := 6 })).statusWord = 0x20020707#32 := by
  decide +kernel

/-! ## The step, the memory, and the host's programs -/

theorem test_write_then_read_of_memory :
    (Memory.write [(3, 7)] 5 9).read 5 = 9 ∧ Memory.write [(3, 7)] 3 0 = [] := by decide

theorem test_step_runs_the_word :
    nextOf (step ((surface 4 0 0).withFetchWord 32 0x12)) = some { surface 4 0 0 with res0 := 2 } := by
  decide +kernel

/-- Program P2 of section 3, its first texel, and the whole surface of one pixel. -/
theorem test_program_fetch_decode :
    (after (runSteps (assembleProgram [.loadDesc 4 4 1 0 0 0x31 8, .fetchDecode 0 0 0 0, .rd .res1, .rd .status])
      { State.reset with src := [(0, 0xFF), (1, 0xFF)] })).reads = [0x400C0001#32, 0xFFFFFFFF#32] := by
  decide +kernel
theorem test_surface_of_one_pixel :
    (match decodeSurface (fun _ b => unpackRgba8 b) ⟨1, 1, 1, 0, 0, 0x1A, 4⟩
        { State.reset with src := [(0, 1), (3, 4)] } with
      | .next r => r.out
      | _ => []) = [(0, 1), (3, 4)] := by decide +kernel

/-! ## Witnesses: the hypotheses of each statement can be met together -/

theorem witness_EncodeAndDecodeAreInverse :
    Instr.wellFormed (.decode (some .bc3)) = true ∧ decode 0x330#32 = .ok (.decode (some .bc3)) :=
  ⟨rfl, rfl⟩

theorem witness_StepRunsDecodedCommand :
    (about (.write 4 0 0x12) State.reset).cfg.Legal ∧
    (about (.write 4 0 0x12) State.reset).pending = .write 4 0 0x12 :: [] ∧
    decode 0x12#32 = .ok .rotation ∧ decodeTableWord 32 0x12 = some .rotation :=
  ⟨by decide +kernel, rfl, rfl, by decide⟩

theorem witness_IllegalCommandWriteRaises :
    (about (.write 4 0 0x400) State.reset).cfg.Legal ∧
    (about (.write 4 0 0x400) State.reset).pending = .write 4 0 0x400 :: [] ∧
    (0x400#32).extractLsb' 10 22 ≠ 0 ∧ (0x80000000#32).extractLsb' 10 22 ≠ 0 ∧
    ((0x110#32).extractLsb' 8 2 ≠ 0 ∧ (0x110#32).extractLsb' 0 8 ≠ 0x30#8) ∧
    (∀ op ∈ [0x04, 0x0F, 0x14, 0x1F, 0x23, 0x2F, 0x32, 0xFF],
      op = ((low32 op).extractLsb' 0 8).toNat ∧
      ((0x04 ≤ op ∧ op ≤ 0x0F) ∨ (0x14 ≤ op ∧ op ≤ 0x1F) ∨ (0x23 ≤ op ∧ op ≤ 0x2F) ∨
        (0x32 ≤ op ∧ op ≤ 0xFF))) := by decide +kernel

theorem witness_HostReadReturnsRegister :
    (about (.read 4 0x00) State.reset).cfg.Legal ∧
    (about (.read 4 0x00) State.reset).pending = .read 4 0x00 :: [] ∧
    (about (.read 4 0x7C) State.reset).pending = .read 4 0x7C :: [] ∧
    (about (.read 4 0x04) (surface 4 0 0)).statusWord = 0x20020001#32 := by decide +kernel

theorem witness_HostWriteStoresRegister :
    (about (.write 4 0x08 5) State.reset).cfg.Legal ∧
    (about (.write 4 0x08 5) State.reset).pending = .write 4 0x08 5 :: [] ∧
    (about (.write 4 0x14 0xFF) State.reset).pending = .write 4 0x14 0xFF :: [] ∧
    (about (.write 4 0x3C 5) State.reset).pending = .write 4 0x3C 5 :: [] ∧
    (about (.write 4 0x04 5) State.reset).pending = .write 4 0x04 5 :: [] ∧
    (about (.write 4 0x7C 5) State.reset).pending = .write 4 0x7C 5 :: [] := by decide +kernel

theorem witness_UnalignedAccessRefused :
    (about (.read 2 0x08) State.reset).cfg.Legal ∧
    (about (.read 2 0x08) State.reset).pending = .read 2 0x08 :: [] ∧
    (about (.write 4 0x7E 5) State.reset).pending = .write 4 0x7E 5 :: [] ∧ 0x7E % 4 ≠ 0 := by decide +kernel

theorem witness_StatusWordLayout :
    (bc1Surface 8 0 0 0).descValid = true ∧ (bc1Surface 8 0 0 0).lat.bpp < 256 ∧
    State.reset.descValid = false := by decide +kernel

theorem witness_ConfigurationRegistersAreFixed :
    (about (.write 4 0x60 9) State.reset).cfg.Legal ∧
    (about (.write 4 0x60 9) State.reset).pending = .write 4 0x60 9 :: [] ∧
    (about (.write 4 0x7C 9) State.reset).pending = .write 4 0x7C 9 :: [] ∧
    nextOf (step (about (.write 4 0x78 9) State.reset)) = some State.reset := by decide +kernel

theorem witness_ResetClearsEveryRegister :
    (about .reset (surface 4 3 5)).cfg.Legal ∧
    (about .reset (surface 4 3 5)).pending = .reset :: [] ∧
    (about .reset (surface 4 3 5)).descValid = true := by decide +kernel

theorem witness_StepKeepsInvariant :
    (about (.write 4 0 0x22) (surface 4 63 0)).Inv ∧
    step (about (.write 4 0 0x22) (surface 4 63 0)) =
      .next (after (step (about (.write 4 0 0x22) (surface 4 63 0)))) :=
  ⟨inv_of (by decide +kernel), eq_next_after (by decide +kernel)⟩

theorem witness_CommandFrame :
    exec .fetch (surface 4 63 0) = .next (after (exec .fetch (surface 4 63 0))) ∧
    exec .clearStatus (surface 4 64 0) = .next (after (exec .clearStatus (surface 4 64 0))) ∧
    exec .loadDesc State.reset = .next (after (exec .loadDesc State.reset)) ∧
    exec (.decode (some .bc1)) State.reset = .next (after (exec (.decode (some .bc1)) State.reset)) :=
  ⟨eq_next_after (by decide +kernel), eq_next_after (by decide +kernel), eq_next_after (by decide +kernel),
    eq_next_after (by decide +kernel)⟩

theorem witness_RaiseWritesOnlyTheError :
    (surface 4 64 0).err = false ∧
    exec .resolve (surface 4 64 0) = .next (after (exec .resolve (surface 4 64 0))) ∧
    (after (exec .resolve (surface 4 64 0))).err = true ∧
    State.reset.err = false ∧ exec .loadDesc State.reset = .next (after (exec .loadDesc State.reset)) ∧
    (after (exec .loadDesc State.reset)).err = true :=
  ⟨by decide +kernel, eq_next_after (by decide +kernel), by decide +kernel, rfl,
    eq_next_after (by decide +kernel), by decide +kernel⟩

theorem witness_FlagOnlyOutOfRange :
    (bc1Surface 7 0 0 0).oor = false ∧
    (∀ i ∈ [Instr.resolve, .fetch, .fetchDecode], (nextOf (exec i (bc1Surface 7 0 0 0))).isSome = true ∧
      (after (exec i (bc1Surface 7 0 0 0))).oor = true) := by decide +kernel

theorem witness_DescriptorNotLoadedRaised :
    Instr.rotation ∈ needsDescriptor ∧ Instr.decode none ∈ needsDescriptor ∧ State.reset.descValid = false := by
  decide

theorem witness_LatchFreeCommandsIgnoreTheLatch :
    Instr.decode (some .bc1) ∉ needsDescriptor ∧ Instr.decode (some .bc1) ≠ .loadDesc ∧
    exec (.decode (some .bc1)) State.reset = .next (after (exec (.decode (some .bc1)) State.reset)) :=
  ⟨by decide, by decide, eq_next_after (by decide +kernel)⟩

theorem witness_CoordinateOutOfRangeRaised :
    (surface 4 64 0).descValid = true ∧ (surface 4 64 0).lat.elemW ≤ (surface 4 64 0).argX.toNat ∧
    (bc1Surface 8 0 1 0).descValid = true ∧ (bc1Surface 8 0 1 0).lat.isBC = true ∧
    (bc1Surface 8 0 1 0).lat.elemH ≤ (bc1Surface 8 0 1 0).argY.toNat := by decide +kernel

theorem witness_ReadsOnlyBelowDataSize :
    exec .fetch (bc1Surface 8 0 0 0) = .next (after (exec .fetch (bc1Surface 8 0 0 0))) ∧
    (Instr.fetch ∈ readsSource → ∀ a, a < (bc1Surface 8 0 0 0).lat.dataSize.toNat →
      Memory.read [(8, 5)] a = (bc1Surface 8 0 0 0).src.read a) := by
  refine ⟨eq_next_after (by decide +kernel), fun _ a ha => ?_⟩
  have hd : (bc1Surface 8 0 0 0).lat.dataSize.toNat = 8 := by decide +kernel
  have hs : (bc1Surface 8 0 0 0).src = [] := by decide +kernel
  rw [hs, Memory.read_cons, if_neg (by omega)]

theorem witness_LiveDescriptorHasNoEffect :
    Instr.resolve ≠ .loadDesc ∧ exec .resolve (surface 4 1 1) = .next (after (exec .resolve (surface 4 1 1))) ∧
    Instr.fmtLookup ≠ .loadDesc ∧
    exec .fmtLookup State.reset = .next (after (exec .fmtLookup State.reset)) ∧
    (surface 4 1 1).desc.format ≠ State.reset.desc.format :=
  ⟨by decide, eq_next_after (by decide +kernel), by decide, eq_next_after (by decide +kernel),
    by decide +kernel⟩

theorem witness_NopChangesNothing :
    (0x80000000#32).extractLsb' 0 8 = 0 ∧ (0x80000000#32).extractLsb' 8 24 ≠ 0 ∧
    (0x100#32).extractLsb' 0 8 = 0 ∧ (0x100#32).extractLsb' 8 24 ≠ 0 := by decide

theorem witness_FmtLookupResult :
    (bc1Surface 8 0 0 0).cfg.Legal ∧
    ((bc1Surface 8 0 0 0).desc.format, some BcClass.bc1) ∈ (bc1Surface 8 0 0 0).cfg.bcSet ∧
    (∀ cls ∈ [none, some BcClass.bc1, some .bc2, some .bc3],
      ((surface 4 0 0).desc.format, cls) ∉ (surface 4 0 0).cfg.bcSet) := by decide +kernel

/-- An uncompressed surface whose pitch is exactly its width, and a block-compressed one whose pitch is
exactly its width in blocks. -/
theorem witness_LoadDescCommits :
    (let s := live Config.default 64 64 64 8 0x700 0x1A 0 0 0 0
     s.cfg.Legal ∧ s.cfg.formatBpp.getD (s.desc.format.toNat % 64) 0 = 32 ∧
     (∀ k ∈ [none, some BcClass.bc1, some .bc2, some .bc3], (s.desc.format, k) ∉ s.cfg.bcSet) ∧
     s.desc.tileMode.toNat < 16 ∧ 0 < s.desc.width.toNat ∧ 0 < s.desc.height.toNat ∧
     s.desc.width.toNat ≤ s.desc.pitch.toNat ∧
     (bankSwappedWidth s.cfg s.desc.tileMode.toNat 32 s.desc.pitch.toNat).toOption = some 64) ∧
    (let s := live Config.default 5 1 2 15 0 0x431 0 0 0 0
     s.cfg.Legal ∧ s.cfg.formatBpp.getD (s.desc.format.toNat % 64) 0 = bcBits .bc1 ∧
     (s.desc.format, some BcClass.bc1) ∈ s.cfg.bcSet ∧ s.desc.tileMode.toNat < 16 ∧
     (s.desc.width.toNat + 3) / 4 ≤ s.desc.pitch.toNat ∧
     (bankSwappedWidth s.cfg s.desc.tileMode.toNat 64 s.desc.pitch.toNat).toOption.isSome = true) := by
  decide +kernel

/-- A format of the table that is refused, a code without a class, one of another class's size, mode 16, a pitch
one short, and a descriptor that passes. -/
theorem witness_LoadDescRefusesInOrder :
    (let s := live Config.default 64 64 63 16 0 0 0 0 0 0
     s.cfg.Legal ∧ s.cfg.formatBpp.getD (s.desc.format.toNat % 64) 0 ∉ [8, 16, 32, 64, 128]) ∧
    (let s := live classless 4 4 1 16 0 0x31 0 0 0 0
     s.cfg.Legal ∧ s.cfg.formatBpp.getD (s.desc.format.toNat % 64) 0 = 64 ∧
     (s.desc.format, none) ∈ s.cfg.bcSet) ∧
    (let s := live { classless with bcSet := [(0x1A#32, some .bc1)] } 4 4 1 16 0 0x1A 0 0 0 0
     s.cfg.Legal ∧ s.cfg.formatBpp.getD (s.desc.format.toNat % 64) 0 = 32 ∧
     (s.desc.format, some BcClass.bc1) ∈ s.cfg.bcSet ∧ 32 ≠ bcBits .bc1) ∧
    (let s := live Config.default 64 64 63 16 0 0x1A 0 0 0 0
     s.cfg.formatBpp.getD (s.desc.format.toNat % 64) 0 = 32 ∧ 16 ≤ s.desc.tileMode.toNat) ∧
    (let s := live Config.default 64 64 63 15 0 0x1A 0 0 0 0
     s.desc.tileMode.toNat < 16 ∧ s.desc.pitch.toNat < s.desc.width.toNat) ∧
    (let s := live Config.default 64 64 64 15 0 0x1A 0 0 0 0
     s.desc.width ≠ 0 ∧ s.desc.height ≠ 0 ∧ ¬ s.desc.pitch.toNat < s.desc.width.toNat) := by decide +kernel

theorem witness_BankCommandFourBanks : State.reset.cfg.Legal ∧ State.reset.cfg.banks = 4 := by
  decide +kernel

theorem witness_BankCommandEightBanks :
    (State.resetWith eightBanks).cfg.Legal ∧ (State.resetWith eightBanks).cfg.banks = 8 := by decide +kernel

theorem witness_RotationCommandResult :
    (surface 15 0 0).cfg.Legal ∧ (surface 15 0 0).descValid = true ∧ State.reset.cfg.Legal ∧
    State.reset.descValid = false := by decide +kernel

theorem witness_BswidthCommandResult :
    (surface 8 0 0).Inv ∧ (surface 8 0 0).descValid = true ∧ (surface 7 0 0).Inv ∧
    (surface 7 0 0).lat.tileMode.toNat ∉ [8, 9, 10, 11, 14, 15] ∧
    (State.resetWith eightBanks).Inv ∧ (State.resetWith eightBanks).descValid = false :=
  ⟨inv_of (by decide +kernel), by decide +kernel, inv_of (by decide +kernel), by decide +kernel,
    eight_banks_inv, rfl⟩

theorem witness_DefaultSwapWidthTable :
    128 ∈ [8, 16, 32, 64, 128] ∧ 1 ≤ 1 ∧ 14 ∈ [8, 9, 14] ∧ 32 = 4096 / 128 ∧ 15 ∈ [10, 11, 15] ∧
    16 = 2048 / 128 := by decide

theorem witness_PixidxCommandResult :
    ((surface 2 7 5).lat.bpp, (surface 2 7 5).cfg.pixelBits.c32) ∈
      [(8, (surface 2 7 5).cfg.pixelBits.c8), (16, (surface 2 7 5).cfg.pixelBits.c16),
       (32, (surface 2 7 5).cfg.pixelBits.c32), (64, (surface 2 7 5).cfg.pixelBits.c64),
       (128, (surface 2 7 5).cfg.pixelBits.c128)] ∧
    (surface 2 7 5).descValid = true ∧
    State.reset.descValid = false := by decide +kernel

theorem witness_PixelIndexIsOneToOne :
    PixelBitTable.AllPermutations Config.default.pixelBits ∧ (0 < 8 ∧ 7 < 8) ∧ 63 < 64 := by decide

theorem witness_SwizzleXorsPipeAndBank : Config.default.Legal ∧ eightBanks.Legal := by decide +kernel

/-- The clauses of RESOLVE, and with them those of FETCH: a coordinate outside, an error of the formula, an
element that ends where the buffer does, and one that ends a byte after it. -/
theorem witness_ResolveCommandResult :
    State.reset.descValid = false ∧
    ((surface 4 64 0).descValid = true ∧ (surface 4 64 0).lat.elemW ≤ (surface 4 64 0).argX.toNat) ∧
    (let s := loaded Config.default 256 256 64 7 0 0x33 1048576 0 0 0
     s.descValid = true ∧ s.argX.toNat < s.lat.elemW ∧ s.argY.toNat < s.lat.elemH ∧
     (match resolveAddr s.cfg s.lat s.argX.toNat s.argY.toNat with
      | .error e => some e | .ok _ => none) = some .splitAmbiguous) ∧
    (let s := loaded tinyRow 64 64 64 8 0 0x1A 1048576 0 0 0
     s.descValid = true ∧ s.argX.toNat < s.lat.elemW ∧ s.argY.toNat < s.lat.elemH ∧
     (match resolveAddr s.cfg s.lat s.argX.toNat s.argY.toNat with
      | .error e => some e | .ok _ => none) = some .arithmeticFault) ∧
    (let s := bc1Surface 8 0 0 0
     s.argX.toNat < s.lat.elemW ∧ s.argY.toNat < s.lat.elemH ∧ s.lat.isBC = true ∧
     (resolveAddr s.cfg s.lat s.argX.toNat s.argY.toNat).toOption = some 0 ∧
     0 + s.lat.bpp / 8 ≤ s.lat.dataSize.toNat) ∧
    (let s := bc1Surface 7 0 0 0
     s.argX.toNat < s.lat.elemW ∧ s.argY.toNat < s.lat.elemH ∧ s.lat.isBC = true ∧
     (resolveAddr s.cfg s.lat s.argX.toNat s.argY.toNat).toOption = some 0 ∧
     s.lat.dataSize.toNat < 0 + s.lat.bpp / 8) := by decide +kernel

/-- The clauses of FETCH meet the states of `witness_ResolveCommandResult`; this one is a 16-byte element,
the whole of the block registers. -/
theorem witness_FetchCommandResult :
    let s := loaded Config.default 8 8 2 0 0 0x33 64 1 1 0
    s.descValid = true ∧ s.argX.toNat < s.lat.elemW ∧ s.argY.toNat < s.lat.elemH ∧
    (resolveAddr s.cfg s.lat s.argX.toNat s.argY.toNat).toOption = some 48 ∧
    48 + s.lat.bpp / 8 = s.lat.dataSize.toNat := by decide +kernel

/-- The clauses of DECODE, and the first ones of FETCH_DECODE, whose others meet the states of
`witness_ResolveCommandResult`. -/
theorem witness_DecodeCommandResult :
    State.reset.descValid = false ∧
    ((surface 0 0 0).descValid = true ∧ (surface 0 0 0).lat.isBC = false) ∧
    ((bc1Surface 8 0 0 15).descValid = true ∧ (bc1Surface 8 0 0 15).lat.bcClass = some .bc1) := by
  decide +kernel

/-- The clauses of FETCH_DECODE on block-compressed surfaces: a coordinate outside, a split error, a block
that ends where the buffer does, and one that ends a byte after it. -/
theorem witness_FetchDecodeCommandResult :
    ((bc1Surface 8 1 0 0).lat.bcClass = some .bc1 ∧
      (bc1Surface 8 1 0 0).lat.elemW ≤ (bc1Surface 8 1 0 0).argX.toNat) ∧
    (let s := loaded Config.default 256 256 64 7 0 0x33 1048576 0 0 0
     s.lat.bcClass = some .bc3 ∧ (resolveAddr s.cfg s.lat s.argX.toNat s.argY.toNat).toOption = none) ∧
    (∀ n ∈ [7, 8], (bc1Surface n 0 0 0).descValid = true ∧ (bc1Surface n 0 0 0).lat.bcClass = some .bc1 ∧
      (resolveAddr Config.default (bc1Surface n 0 0 0).lat 0 0).toOption = some 0 ∧
      (bc1Surface n 0 0 0).lat.dataSize.toNat = n ∧ (bc1Surface n 0 0 0).lat.bpp / 8 = 8) := by
  decide +kernel

theorem witness_ResolveLinearIdentity :
    (surface 1 63 63).Inv ∧ (surface 1 63 63).descValid = true ∧ (surface 1 63 63).lat.tileMode.toNat ≤ 1 ∧
    (surface 1 63 63).argX.toNat < (surface 1 63 63).lat.elemW ∧
    (surface 1 63 63).argY.toNat < (surface 1 63 63).lat.elemH ∧
    (surface 1 63 63).lat.pitch.toNat = (surface 1 63 63).lat.elemW :=
  ⟨inv_of (by decide +kernel), by decide +kernel, by decide +kernel, by decide +kernel, by decide +kernel,
    by decide +kernel⟩

theorem witness_ResolveMicroTiledAddress :
    (surface 2 63 63).Inv ∧ (surface 2 63 63).descValid = true ∧ (surface 2 63 63).lat.tileMode = 2#4 ∧
    (surface 3 63 63).Inv ∧ (surface 3 63 63).descValid = true ∧ (surface 3 63 63).lat.tileMode = 3#4 ∧
    (surface 3 63 63).argX.toNat < (surface 3 63 63).lat.elemW ∧
    (surface 3 63 63).argY.toNat < (surface 3 63 63).lat.elemH :=
  ⟨inv_of (by decide +kernel), by decide +kernel, by decide +kernel, inv_of (by decide +kernel),
    by decide +kernel, by decide +kernel, by decide +kernel, by decide +kernel⟩

theorem witness_AssembledPartsAreDisjoint :
    Config.default.Legal ∧ 1 < Config.default.pipes ∧ 3 < Config.default.banks ∧
    300 = 44 + 2048 / (Config.default.pipes * Config.default.banks) := by decide +kernel

theorem witness_BankSwapResult :
    Config.default.Legal ∧ 3 < Config.default.banks ∧
    (surface 4 0 0).lat.tileMode.toNat ∉ [8, 9, 10, 11, 14, 15] ∧
    (surface 15 0 0).lat.tileMode.toNat ∈ [8, 9, 10, 11, 14, 15] ∧ (surface 15 0 0).lat.bsw ≠ 0 ∧
    tinyRow.Legal ∧ (loaded tinyRow 64 64 64 8 0 0x1A 0 0 0 0).lat.bsw = 0 ∧
    (loaded tinyRow 64 64 64 8 0 0x1A 0 0 0 0).lat.tileMode.toNat = 8 := by decide +kernel

/-- Mode 7 at 128 bits a pixel: a micro-tile of 4096 bytes, twice the default split size. -/
theorem witness_SplitCheckRefuses :
    (loaded Config.default 256 256 64 7 0 0x33 1048576 0 0 0).Inv ∧
    (let s := loaded Config.default 256 256 64 7 0 0x33 1048576 0 0 0
     s.descValid = true ∧ s.lat.isBC = true ∧
     s.lat.tileMode.toNat ∈ [4, 5, 6, 8, 9, 10, 12, 14, 7, 11, 13, 15] ∧
     s.argX.toNat < s.lat.elemW ∧ s.argY.toNat < s.lat.elemH ∧ s.cfg.slicePolicy = .refuse ∧
     s.cfg.splitSize < 8 * thickness s.lat.tileMode.toNat * s.lat.bpp) ∧
    noSplit.slicePolicy = .noSlice :=
  ⟨inv_of (by decide +kernel), by decide +kernel, rfl⟩

theorem witness_SplitCheckOfACheckedLatch : Latch.Checked Config.default (surface 7 0 0).lat :=
  checked_of (by decide +kernel)

/-- A bank-swapped surface and a thick one under NO_SLICE. -/
theorem witness_ResolveMacroTiledAddress :
    (surface 8 63 63).Inv ∧ (loaded noSplit 256 256 64 7 0 0x33 1048576 63 63 0).Inv ∧
    (let s := surface 8 63 63
     s.descValid = true ∧ s.argX.toNat < s.lat.elemW ∧ s.argY.toNat < s.lat.elemH ∧
     4 ≤ s.lat.tileMode.toNat ∧ 8 * 1 * s.lat.bpp ≤ s.cfg.splitSize ∧ s.lat.bsw ≠ 0) ∧
    (let s := loaded noSplit 256 256 64 7 0 0x33 1048576 63 63 0
     s.descValid = true ∧ s.argX.toNat < s.lat.elemW ∧ s.argY.toNat < s.lat.elemH ∧
     4 ≤ s.lat.tileMode.toNat ∧ s.cfg.slicePolicy = .noSlice) :=
  ⟨inv_of (by decide +kernel), inv_of (by decide +kernel), by decide +kernel, by decide +kernel⟩

theorem witness_LinearAndMicroElementsNeverOverlap :
    Latch.Checked Config.default (surface 2 0 0).lat ∧
    PixelBitTable.AllPermutations Config.default.pixelBits ∧
    (let l := (surface 2 0 0).lat
     l.tileMode.toNat ≤ 3 ∧ l.pitch.toNat % 8 = 0 ∧ 63 < l.elemW ∧ (63, 0) ≠ (62, 0) ∧
     (resolveAddr Config.default l 63 0).toOption = some 1836 ∧
     (resolveAddr Config.default l 62 0).toOption = some 1832) ∧
    (surface 0 0 0).lat.tileMode.toNat ≤ 3 :=
  ⟨checked_of (by decide +kernel), by decide, by decide +kernel, by decide +kernel⟩

theorem witness_MacroTiledElementsNeverOverlap :
    Config.default.Legal ∧ Latch.Checked Config.default (surface 8 0 0).lat ∧
    PixelBitTable.AllPermutations Config.default.pixelBits ∧ 16 ≤ Config.default.groupSize ∧
    (let l := (surface 8 0 0).lat
     4 ≤ l.tileMode.toNat ∧ l.pitch.toNat % (8 * Config.default.banks / aspect l.tileMode.toNat) = 0 ∧
     63 < l.elemW ∧ (63, 0) ≠ (63, 63) ∧ (resolveAddr Config.default l 63 0).toOption = some 3884 ∧
     (resolveAddr Config.default l 63 63).toOption = some 14588) :=
  ⟨by decide +kernel, checked_of (by decide +kernel), by decide, by decide, by decide +kernel⟩

theorem witness_Bc1ReadsOnlyEightBytes :
    exec (.decode (some .bc1)) (withBlock 1 2 3 4 5) =
      .next (after (exec (.decode (some .bc1)) (withBlock 1 2 3 4 5))) :=
  eq_next_after (by decide +kernel)

/-- The registers of the block `00 F8 1F 00 E4 E4 E4 E4` of section 2.6, texel 3. -/
theorem witness_DecodeColourFromRegisters :
    let s := withBlock 0x001FF800 0xE4E4E4E4 0 0 3
    s.blk.b0.toNat % 65536 = 0xF800 ∧ s.blk.b0.toNat / 65536 = 0x1F ∧
    s.blk.b1.toNat / 4 ^ s.argT.toNat % 4 = 3 := by decide +kernel

/-- The registers of the BC3 block of section 2.6, texel 7. -/
theorem witness_Bc3AlphaFromRegisters :
    let s := withBlock 0xC68800FF 0xFAC688FA 0xFFFF0000 0xE4E4E4E4 7
    255 = s.blk.b0.toNat % 256 ∧ 0 = s.blk.b0.toNat / 256 % 256 ∧
    7 = (s.blk.b0.toNat + 2 ^ 32 * s.blk.b1.toNat) / 65536 / 8 ^ s.argT.toNat % 8 := by decide +kernel

/-- The block of section 2.6 with `color0` below `color1`: code 3 of BC1 is transparent. -/
theorem witness_Bc1AlphaFromRegisters :
    (withBlock 0xFFFF0000 0xE4E4E4E4 0 0 3).blk.b1.toNat / 4 ^ 3 % 4 = 3 ∧
    (withBlock 0xFFFF0000 0xE4E4E4E4 0 0 3).blk.b0.toNat % 65536 ≤
      (withBlock 0xFFFF0000 0xE4E4E4E4 0 0 3).blk.b0.toNat / 65536 ∧
    (withBlock 0xFFFF0000 0xE4E4E4E4 0 0 2).blk.b1.toNat / 4 ^ 2 % 4 ≠ 3 := by decide +kernel

theorem witness_Bc1DegenerateBlock :
    0x1234 = (withBlock 0x12341234 0xE4E4E4E4 0 0 3).blk.b0.toNat % 65536 ∧
    (withBlock 0x12341234 0xE4E4E4E4 0 0 3).blk.b0.toNat / 65536 = 0x1234 := by decide +kernel

theorem witness_PaletteLiesBetweenEndpoints :
    (paletteColour false .bc1 0xFFFF 0 3).2 = true ∧ (paletteColour false .bc1 0 0xFFFF 2).2 = true := by decide

theorem witness_FetchDecodeIsFetchThenDecode :
    (let s := bc1Surface 8 0 0 3
     s.descValid = true ∧ s.lat.bcClass = some .bc1 ∧ s.argX.toNat < s.lat.elemW ∧
     s.argY.toNat < s.lat.elemH ∧ (resolveAddr s.cfg s.lat s.argX.toNat s.argY.toNat).toOption = some 0 ∧
     (nextOf (exec .fetch s)).isSome = true ∧ 0 + s.lat.bpp / 8 ≤ s.lat.dataSize.toNat) ∧
    (bc1Surface 7 0 0 3).lat.dataSize.toNat < 0 + (bc1Surface 7 0 0 3).lat.bpp / 8 := by decide +kernel

theorem witness_SetBlkProgramFillsBlock : State.reset.cfg.Legal := by decide +kernel

theorem witness_LoadDescProgramWritesThenIssues : (surface 4 0 0).cfg.Legal := by decide +kernel

/-- A bank-swapped surface and a block-compressed one whose swap width is 0. -/
theorem witness_ZeroSwapWidthRaisesArithmeticFault :
    (∀ f ∈ [0x1A, 0x33],
      let s := loaded tinyRow 64 64 64 8 0 f 0 0 0 0
      s.descValid = true ∧ (f = 0x33 → s.lat.isBC = true) ∧ s.lat.tileClass = .macroTiled ∧
      s.lat.tileMode.toNat ∈ [8, 9, 10, 11, 14, 15] ∧ s.lat.bsw = 0 ∧ s.argX.toNat < s.lat.elemW ∧
      s.argY.toNat < s.lat.elemH ∧
      8 * thickness s.lat.tileMode.toNat * s.lat.bpp ≤ s.cfg.splitSize) ∧
    (let s := loaded { tinyRow with slicePolicy := .noSlice } 64 64 64 11 0 0x33 0 0 0 0
     s.descValid = true ∧ s.lat.bsw = 0 ∧ s.cfg.slicePolicy = .noSlice) := by decide +kernel

theorem reset_memory_is_canonical : Memory.wf State.reset.src := Memory.wf_nil

end Sys2Proof.Machine.Tests
end

section
/-! The block's state and its register window (10_state.md): what the host's reads and writes do, what a
command leaves unchanged, and the invariant every step keeps. -/

namespace Sys2Proof.Machine

variable {s t : State}

/-! ## One step is one action of the host (20_memory.md R81) -/

/-- With an action waiting, a step of a legal machine does that action. -/
theorem step_of_pending {a : HostStep} {rest : List HostStep} (hl : s.cfg.Legal)
    (hp : s.pending = a :: rest) : step s = runHostStep a { s with pending := rest } := by
  unfold step takeHostStep
  rw [if_pos hl, hp]

/-- An access inside the window at a 4-byte-aligned offset passes the checks of 20_memory.md R76. -/
theorem runHostStep_write {offset : Nat} (ha : alignedWord 4 offset = true)
    (hw : inWindow offset = true) (v : Word) (s : State) :
    runHostStep (.write 4 offset v) s = hostWrite offset v s :=
  checkedAccess_of_ok _ ha hw

theorem runHostStep_read {offset : Nat} (ha : alignedWord 4 offset = true)
    (hw : inWindow offset = true) (s : State) :
    runHostStep (.read 4 offset) s = .next (s.hostRead offset) :=
  checkedAccess_of_ok _ ha hw

/-- A write to any register but `CMD` is the register's own store. -/
theorem hostWrite_of_ne_cmd {offset : Nat} {r : Reg} (hr : Reg.atOffset offset = some r)
    (hne : r ≠ .cmd) (v : Word) (s : State) : hostWrite offset v s = .next (s.writeReg r v) := by
  unfold hostWrite
  rw [hr]
  cases r
  case cmd => exact absurd rfl hne
  all_goals rfl

/-- A write of a command's word to `CMD` executes the command (10_state.md R33). -/
theorem runHostStep_command {w : Word} {i : Instr} (hd : decode w = .ok i) (s : State) :
    runHostStep (.write 4 Reg.cmd.offset w) s = exec i s := by
  rw [runHostStep_write rfl rfl]
  show runCommand w s = exec i s
  simp [runCommand, hd]

/-- The word of the opcode table that names a command decodes to it. -/
theorem decode_of_decodeTableWord {nbits w : Nat} {i : Instr}
    (h : decodeTableWord nbits w = some i) : decode (BitVec.ofNat 32 (w % 2 ^ nbits)) = .ok i := by
  unfold decodeTableWord at h
  split at h
  · rename_i j hj
    cases h
    exact hj
  · cases h

/-- Settles O4: a step with a command's word waiting is `exec` of the command. -/
theorem stepRunsDecodedCommand : Obligations.StepRunsDecodedCommand := by
  unfold Obligations.StepRunsDecodedCommand
  refine ⟨fun s rest w i hl hp hd => ?_, fun s w i hl hd => ?_⟩
  · rw [step_of_pending hl hp]
    exact runHostStep_command hd _
  · have hp : (s.withFetchWord 32 w).pending =
        .write 4 Reg.cmd.offset (BitVec.ofNat 32 (w % 2 ^ 32)) :: s.pending := rfl
    rw [step_of_pending (s := s.withFetchWord 32 w) hl hp]
    exact runHostStep_command (decode_of_decodeTableWord hd) _

/-! ## What an offset of the window reads as (10_state.md R32-R44) -/

/-- The register found at an offset has that offset. -/
theorem Reg.offset_of_atOffset {o : Nat} {r : Reg} (h : Reg.atOffset o = some r) : r.offset = o := by
  simpa using List.find?_some h

theorem State.readOffset_of_atOffset {o : Nat} {r : Reg} (h : Reg.atOffset o = some r) (s : State) :
    s.readOffset o = s.readReg r := by
  simp [State.readOffset, h]

theorem State.readOffset_of_reserved {o : Nat} (h : Reg.atOffset o = none) (s : State) :
    s.readOffset o = 0 := by
  simp [State.readOffset, h]

/-- Two states whose registers read the same show the same window. -/
theorem State.readOffset_congr {o : Nat}
    (h : ∀ r, Reg.atOffset o = some r → t.readReg r = s.readReg r) :
    t.readOffset o = s.readOffset o := by
  cases hr : Reg.atOffset o with
  | none => rw [readOffset_of_reserved hr, readOffset_of_reserved hr]
  | some r => rw [readOffset_of_atOffset hr, readOffset_of_atOffset hr, h r hr]

/-- What the host still has to do shows in no register. -/
@[simp] theorem State.readOffset_pending (s : State) (p : List HostStep) (o : Nat) :
    State.readOffset { s with pending := p } o = s.readOffset o :=
  State.readOffset_congr fun r _ => by cases r <;> rfl

/-- The number of pipes and of banks fits its register in every legal configuration
(00_scope.md R6). -/
theorem Config.pipes_banks_lt_of_legal {c : Config} (hl : c.Legal) :
    c.pipes < 2 ^ 32 ∧ c.banks < 2 ^ 32 := by
  obtain ⟨⟨hpipes, hbanks, -⟩, -⟩ := hl
  omega

/-- The window as the host sees it: each 4-byte-aligned offset with what it reads as. -/
def State.window (s : State) : List (Nat × Word) :=
  (List.range 32).map fun k => (4 * k, s.readOffset (4 * k))

theorem State.mem_window {offset : Nat} {v : Word} (h : (offset, v) ∈ s.window) :
    alignedWord 4 offset = true ∧ inWindow offset = true ∧ v = s.readOffset offset := by
  obtain ⟨k, hk, heq⟩ := List.mem_map.mp h
  cases heq
  have hk' : k < 32 := List.mem_range.mp hk
  simp only [alignedWord, inWindow, Bool.and_eq_true, beq_iff_eq, decide_eq_true_eq, and_true, true_and]
  omega

/-- A host read of an offset of the window records what the offset reads as. -/
theorem step_read_of_mem_window {rest : List HostStep} {offset : Nat} {v : Word} (hl : s.cfg.Legal)
    (hp : s.pending = .read 4 offset :: rest) (h : (offset, v) ∈ s.window) :
    step s = .next { s with pending := rest, reads := v :: s.reads } := by
  obtain ⟨ha, hw, rfl⟩ := State.mem_window h
  rw [step_of_pending hl hp, runHostStep_read ha hw, State.hostRead, State.readOffset_pending]

/-- Settles O6: the table of the statement is the window, read offset by offset. -/
theorem hostReadReturnsRegister : Obligations.HostReadReturnsRegister := by
  unfold Obligations.HostReadReturnsRegister
  intro s rest offset v hl hp hmem
  obtain ⟨hpipes, hbanks⟩ := Config.pipes_banks_lt_of_legal hl
  have hpipesWord : BitVec.ofNat 32 s.cfg.pipes = parameterWord .cfgPipes s.cfg.pipes :=
    (parameterWord_of_lt hpipes).symm
  have hbanksWord : BitVec.ofNat 32 s.cfg.banks = parameterWord .cfgBanks s.cfg.banks :=
    (parameterWord_of_lt hbanks).symm
  rw [hpipesWord, hbanksWord] at hmem
  exact step_read_of_mem_window hl hp hmem

/-! ## What a host write stores (10_state.md R35-R45) -/

/-- The bits a host write stores in a register; `none` for `CMD` and for a register that ignores it. -/
def Reg.storedBits : Reg → Option Word
  | .descWidth | .descHeight | .descPitch | .descSwizzle | .descFormat | .descDataSize
  | .argX | .argY | .blk0 | .blk1 | .blk2 | .blk3 => some 0xFFFFFFFF#32
  | .descTileMode => some 0x1F#32
  | .argT => some 0xF#32
  | .cmd | .status | .res0 | .res1 | .cfgPipes | .cfgBanks | .cfgGroupSize | .cfgRowSize
  | .cfgSwapSize | .cfgSplitSize | .cfgOptions => none

/-- The low bits of a word, widened again, are the word under a mask. -/
theorem zeroExtend_extractLsb'_zero (v : Word) (n : Nat) (hn : n ≤ 32) :
    (v.extractLsb' 0 n).zeroExtend 32 = v &&& BitVec.ofNat 32 (2 ^ n - 1) := by
  apply BitVec.eq_of_toNat_eq
  have hlt : 2 ^ n ≤ 2 ^ 32 := Nat.pow_le_pow_right (by decide) hn
  have hmod : v.toNat % 2 ^ n < 2 ^ n := Nat.mod_lt _ (by positivity)
  simp only [BitVec.truncate_eq_setWidth, BitVec.toNat_setWidth, BitVec.extractLsb'_toNat,
    Nat.shiftRight_zero, BitVec.toNat_and, BitVec.toNat_ofNat]
  rw [Nat.mod_eq_of_lt (by omega : v.toNat % 2 ^ n < 2 ^ 32),
    Nat.mod_eq_of_lt (by omega : 2 ^ n - 1 < 2 ^ 32), Nat.and_two_pow_sub_one_eq_mod]

/-- A register reads back what was written, its reserved bits 0. -/
theorem State.readReg_writeReg_same {r : Reg} {mask : Word} (hr : r.storedBits = some mask)
    (s : State) (v : Word) : (s.writeReg r v).readReg r = v &&& mask := by
  cases r <;> cases hr
  case descTileMode => exact zeroExtend_extractLsb'_zero v 5 (by decide)
  case argT => exact zeroExtend_extractLsb'_zero v 4 (by decide)
  all_goals exact (BitVec.and_allOnes (x := v)).symm

/-- A write to one register shows in no other. -/
theorem State.readReg_writeReg_ne {r q : Reg} (h : q ≠ r) (s : State) (v : Word) :
    (s.writeReg r v).readReg q = s.readReg q := by
  cases r <;> cases q <;> first | exact absurd rfl h | rfl

/-- A register without stored bits is read-only: a host write leaves the whole state. -/
theorem State.writeReg_of_readOnly {r : Reg} (hr : r.storedBits = none) (s : State) (v : Word) :
    s.writeReg r v = s := by
  cases r <;> cases hr <;> rfl

/-- The RW registers: each offset with the bits a write to it stores. -/
def storedWindow : List (Nat × Word) :=
  Reg.all.filterMap fun r => r.storedBits.map fun mask => (r.offset, mask)

theorem exists_reg_of_mem_storedWindow {offset : Nat} {mask : Word}
    (h : (offset, mask) ∈ storedWindow) : ∃ r : Reg, r.offset = offset ∧ r.storedBits = some mask := by
  obtain ⟨r, -, hr⟩ := List.mem_filterMap.mp h
  obtain ⟨m, hm, heq⟩ := Option.map_eq_some_iff.mp hr
  cases heq
  exact ⟨r, rfl, hm⟩

/-- A write to this offset of the window is ignored: the offset is reserved or its register is
read-only, and it is not `CMD`'s (10_state.md R44, R45). -/
def ignoresWrite (offset : Nat) : Bool :=
  match Reg.atOffset offset with
  | some .cmd => false
  | some r => r.storedBits.isNone
  | none => true

/-- The read-only registers and the reserved offsets. -/
def ignoringWindow : List Nat := ((List.range 32).map (4 * ·)).filter ignoresWrite

theorem hostWrite_of_ignoresWrite {offset : Nat} (h : ignoresWrite offset = true) (v : Word)
    (s : State) : hostWrite offset v s = .next s := by
  unfold ignoresWrite at h
  split at h
  · cases h
  · rename_i r hne hr
    rw [hostWrite_of_ne_cmd hr hne, State.writeReg_of_readOnly (Option.isNone_iff_eq_none.mp h)]
  · rename_i hr
    simp [hostWrite, hr]

/-- A write to a RW register stores the register's value. -/
theorem step_write_register {rest : List HostStep} {r : Reg} {mask v : Word} (hl : s.cfg.Legal)
    (hr : r.storedBits = some mask) (hp : s.pending = .write 4 r.offset v :: rest) :
    step s = .next ({ s with pending := rest }.writeReg r v) := by
  obtain ⟨ha, hw⟩ := r.offset_ok
  have hne : r ≠ .cmd := by rintro rfl; cases hr
  rw [step_of_pending hl hp, runHostStep_write ha hw, hostWrite_of_ne_cmd r.atOffset_offset hne]

/-- A write to a read-only register or a reserved offset only takes the action off the order. -/
theorem step_write_ignored {rest : List HostStep} {offset : Nat} {v : Word} (hl : s.cfg.Legal)
    (h : offset ∈ ignoringWindow) (hp : s.pending = .write 4 offset v :: rest) :
    step s = .next { s with pending := rest } := by
  obtain ⟨hmem, hi⟩ := List.mem_filter.mp h
  obtain ⟨k, hk, rfl⟩ := List.mem_map.mp hmem
  have hk' : k < 32 := List.mem_range.mp hk
  have ha : alignedWord 4 (4 * k) = true := by simp [alignedWord]
  have hw : inWindow (4 * k) = true := by simp only [inWindow, decide_eq_true_eq]; omega
  rw [step_of_pending hl hp, runHostStep_write ha hw, hostWrite_of_ignoresWrite hi]

/-- Settles O7: `storedWindow` and `ignoringWindow` are the two tables of the statement. -/
theorem hostWriteStoresRegister : Obligations.HostWriteStoresRegister := by
  unfold Obligations.HostWriteStoresRegister
  intro s rest offset v hl hp
  refine ⟨fun mask hmem => ?_, fun hmem => step_write_ignored hl hmem hp⟩
  obtain ⟨r, rfl, hr⟩ := exists_reg_of_mem_storedWindow hmem
  refine ⟨_, step_write_register hl hr hp, ?_, fun o ho => ?_, by simp⟩
  · rw [State.readOffset_of_atOffset r.atOffset_offset, State.readReg_writeReg_same hr]
  · rw [← State.readOffset_pending s rest o]
    refine State.readOffset_congr fun q hq => State.readReg_writeReg_ne ?_ _ v
    rintro rfl
    exact ho (Reg.offset_of_atOffset hq).symm

/-! ## `STATUS` (10_state.md R34) -/

theorem tileClassNumber_le (c : TileClass) : tileClassNumber c ≤ 2 := by
  cases c <;> decide

theorem classNumber_le (c : Option BcClass) : classNumber c ≤ 3 := by
  rcases c with _ | _ | _ | _ <;> decide

theorem Latch.view_lt (l : Latch) : l.view < 2 ^ 16 := by
  have hclass := tileClassNumber_le l.tileClass
  have hbc := classNumber_le l.bcClass
  have hisBC := l.isBC.toNat_le
  unfold Latch.view
  omega

/-- No field of `STATUS` runs into the next: the word is the exact sum of its fields. -/
theorem State.statusWord_toNat (s : State) :
    s.statusWord.toNat = s.descValid.toNat + 2 ^ 1 * s.oor.toNat + 2 ^ 2 * s.err.toNat +
      2 ^ 8 * s.errCode.toNat + 2 ^ 16 * (if s.descValid then s.lat.view else 0) := by
  have hview : (if s.descValid then s.lat.view else 0) < 2 ^ 16 := by
    split
    · exact s.lat.view_lt
    · decide
  have hvalid := s.descValid.toNat_le
  have hoor := s.oor.toNat_le
  have herr := s.err.toNat_le
  have hcode := s.errCode.isLt
  unfold State.statusWord
  rw [BitVec.toNat_ofNat, Nat.mod_eq_of_lt (by omega)]

/-- Bit `k` of a word, from its number. -/
theorem getLsbD_of_toNat {w : Word} {k : Nat} {b : Bool} (h : w.toNat / 2 ^ k % 2 = b.toNat) :
    w.getLsbD k = b := by
  rw [← BitVec.testBit_toNat, Nat.testBit_eq_decide_div_mod_eq, h]
  cases b <;> rfl

/-- A field of a word, from its number. -/
theorem extractLsb'_toNat_eq (w : Word) (k n : Nat) :
    (w.extractLsb' k n).toNat = w.toNat / 2 ^ k % 2 ^ n := by
  rw [BitVec.extractLsb'_toNat, Nat.shiftRight_eq_div_pow]

theorem extractLsb'_of_toNat {w : Word} {k n : Nat} {b : BitVec n}
    (h : w.toNat / 2 ^ k % 2 ^ n = b.toNat) : w.extractLsb' k n = b :=
  BitVec.eq_of_toNat_eq ((extractLsb'_toNat_eq w k n).trans h)

theorem extractLsb'_eq_zero {w : Word} {k n : Nat} (h : w.toNat / 2 ^ k % 2 ^ n = 0) :
    w.extractLsb' k n = 0 :=
  extractLsb'_of_toNat (h.trans BitVec.toNat_zero.symm)

/-- `STATUS[31:16]` shows the latched views while the latch is valid. -/
theorem State.statusWord_views (hv : s.descValid = true) :
    s.statusWord.toNat / 2 ^ 16 = s.lat.view := by
  have hword := s.statusWord_toNat
  have hvalid := s.descValid.toNat_le
  have hoor := s.oor.toNat_le
  have herr := s.err.toNat_le
  have hcode := s.errCode.isLt
  rw [if_pos hv] at hword
  omega

/-- Settles O9: each field is read off the exact sum. -/
theorem statusWordLayout : Obligations.StatusWordLayout := by
  unfold Obligations.StatusWordLayout
  intro s
  have hword := s.statusWord_toNat
  have hvalid := s.descValid.toNat_le
  have hoor := s.oor.toNat_le
  have herr := s.err.toNat_le
  have hcode := s.errCode.isLt
  refine ⟨getLsbD_of_toNat (by omega), getLsbD_of_toNat (by omega), getLsbD_of_toNat (by omega),
    extractLsb'_eq_zero (by omega), extractLsb'_of_toNat (by omega), fun hv => ?_, fun hv => ?_⟩
  · have hview := State.statusWord_views hv
    have hclass := tileClassNumber_le s.lat.tileClass
    have hbc := classNumber_le s.lat.bcClass
    have hisBC := s.lat.isBC.toNat_le
    simp only [extractLsb'_toNat_eq]
    unfold Latch.view at hview
    exact ⟨by omega, getLsbD_of_toNat (by omega), by omega, extractLsb'_eq_zero (by omega),
      fun hbpp => by omega⟩
  · rw [if_neg (by simp [hv])] at hword
    exact extractLsb'_eq_zero (by omega)

/-! ## The reset input (70_reset_and_hazards.md R280, R281) -/

/-- After a reset the registers below the configuration registers read 0, those read as before. -/
theorem State.readReg_resetBlock (s : State) (r : Reg) :
    s.resetBlock.readReg r = if r.offset < 0x60 then 0 else s.readReg r := by
  cases r <;> rfl

theorem State.readOffset_resetBlock (s : State) (o : Nat) :
    s.resetBlock.readOffset o = if o < 0x60 then 0 else s.readOffset o := by
  cases hr : Reg.atOffset o with
  | none => simp [State.readOffset_of_reserved hr]
  | some r =>
    rw [readOffset_of_atOffset hr, readOffset_of_atOffset hr, readReg_resetBlock,
      Reg.offset_of_atOffset hr]

/-- Settles O11: what each offset reads after the reset, and the fields of the reset state. -/
theorem resetClearsEveryRegister : Obligations.ResetClearsEveryRegister := by
  unfold Obligations.ResetClearsEveryRegister
  intro s rest hl hp
  refine ⟨_, step_of_pending hl hp, fun o ho => ?_, fun o ho => ?_, by simp [Latch.zero]⟩
  · rw [State.readOffset_resetBlock, if_pos ho]
  · rw [State.readOffset_resetBlock, if_neg (by omega), State.readOffset_pending]

/-! ## The pseudo-instruction SETBLK (30_encoding.md R98) -/

/-- A program's write to a register other than `CMD` stores the value and goes on. -/
theorem runSteps_wr {r : Reg} (hne : r ≠ .cmd) (hl : s.cfg.Legal) (v : Word)
    (rest : List HostStep) : runSteps (wr r v :: rest) s = runSteps rest (s.writeReg r v) := by
  obtain ⟨ha, hw⟩ := r.offset_ok
  have hstep : step { s with pending := wr r v :: s.pending } = .next (s.writeReg r v) := by
    rw [step_of_pending (s := { s with pending := wr r v :: s.pending }) hl rfl, wr,
      runHostStep_write ha hw, hostWrite_of_ne_cmd r.atOffset_offset hne]
  rw [runSteps, hstep]

/-- A program that begins with register writes, none to `CMD`, stores them in order and goes on. -/
theorem runSteps_writes {ws : List (Reg × Word)} (hne : ∀ p ∈ ws, p.1 ≠ .cmd) (hl : s.cfg.Legal)
    (rest : List HostStep) :
    runSteps (ws.map (fun p => wr p.1 p.2) ++ rest) s =
      runSteps rest (ws.foldl (fun u p => u.writeReg p.1 p.2) s) := by
  induction ws generalizing s with
  | nil => rfl
  | cons p ws ih =>
    obtain ⟨hp, hws⟩ := List.forall_mem_cons.mp hne
    rw [List.map_cons, List.cons_append, runSteps_wr hp hl, List.foldl_cons]
    exact ih hws (by rwa [State.writeReg_cfg])

/-- The bytes of a packed word are the bytes it was packed from (20_memory.md R74). -/
theorem wordBytes_packBytes (b0 b1 b2 b3 : Byte) :
    wordBytes (packBytes b0 b1 b2 b3) = [b0, b1, b2, b3] := by
  have h0 := b0.isLt
  have h1 := b1.isLt
  have h2 := b2.isLt
  have h3 := b3.isLt
  have hpack : (packBytes b0 b1 b2 b3).toNat =
      b0.toNat + 2 ^ 8 * b1.toNat + 2 ^ 16 * b2.toNat + 2 ^ 24 * b3.toNat := by
    rw [packBytes, BitVec.toNat_ofNat, Nat.mod_eq_of_lt (by omega)]
  rw [wordBytes, extractLsb'_of_toNat (b := b0) (by omega), extractLsb'_of_toNat (b := b1) (by omega),
    extractLsb'_of_toNat (b := b2) (by omega), extractLsb'_of_toNat (b := b3) (by omega)]

/-- Settles O56: the program is four register writes. -/
theorem setBlkProgramFillsBlock : Obligations.SetBlkProgramFillsBlock := by
  unfold Obligations.SetBlkProgramFillsBlock
  intro s b0 b1 b2 b3 b4 b5 b6 b7 b8 b9 b10 b11 b12 b13 b14 b15 hl
  refine ⟨⟨packBytes b0 b1 b2 b3, packBytes b4 b5 b6 b7, packBytes b8 b9 b10 b11,
    packBytes b12 b13 b14 b15⟩, ?_, ?_⟩
  · exact runSteps_writes (ws := [(.blk0, packBytes b0 b1 b2 b3), (.blk1, packBytes b4 b5 b6 b7),
      (.blk2, packBytes b8 b9 b10 b11), (.blk3, packBytes b12 b13 b14 b15)]) (by simp) hl []
  · simp [BlockRegs.bytes, wordBytes_packBytes]

end Sys2Proof.Machine
end

section
/-! What a command can do to the state, said once for all thirteen, and what follows for every command: its
frame (10_state.md R39-R47), the flag of an access outside the source buffer (60_exceptions.md R263), and the
invariant (40_control_and_descriptor.md R122, R123). -/

namespace Sys2Proof.Machine

variable {s t : State}

/-! ## The fetch of an element (43_address_resolver.md R195) -/

/-- A fetch that leaves the buffer leaves a block of zeros and the flag. -/
theorem State.fetchElement_of_outside {addr : Nat} (ho : addressOutOfRange s.lat addr = true) :
    s.fetchElement addr = ((s.setRes0 addr).setBlk ⟨0, 0, 0, 0⟩).flagOutOfRange :=
  if_pos ho

/-- A fetch sets `OOR` when the element leaves the buffer and clears it never. -/
@[simp] theorem State.fetchElement_oor (s : State) (addr : Nat) :
    (s.fetchElement addr).oor = (s.oor || addressOutOfRange s.lat addr) := by
  rcases s.fetchElement_cases addr with ⟨ho, heq⟩ | ⟨ho, heq⟩ <;> simp [ho, heq]

/-! ## What a command can do -/

/-- The errors a command other than LOAD_DESC raises (60_exceptions.md R264). -/
def commandErrors : List ErrorKind :=
  [.descriptorNotLoaded, .coordinateOutOfRange, .splitAmbiguous, .arithmeticFault, .formatClassMismatch]

/-- The commands that only calculate a value for `RES0` (42_bank_pipe.md, 43_address_resolver.md R176). -/
def calculates : List Instr := [.pipe, .bank, .rotation, .bswidth, .pixidx]

/-- Every way a command can end, with the update it makes. -/
inductive CommandEffect (s : State) : Instr → State → Prop
  /-- NOP (40_control_and_descriptor.md R111) -/
  | idle : CommandEffect s .nop s
  /-- CLEAR_STATUS (40_control_and_descriptor.md R112) -/
  | acknowledged : CommandEffect s .clearStatus s.acknowledge
  /-- LOAD_DESC of a descriptor that passes its checks (40_control_and_descriptor.md R122) -/
  | committed {l : Latch} (h : checkDescriptor s.cfg s.desc = .ok l) :
      CommandEffect s .loadDesc (s.commit l)
  /-- LOAD_DESC of any other descriptor (40_control_and_descriptor.md R123) -/
  | dropped {e : ErrorKind} (h : checkDescriptor s.cfg s.desc = .error e) :
      CommandEffect s .loadDesc (s.dropLatch.raise e)
  /-- a non-recoverable error of a command that reads the latch (60_exceptions.md R262) -/
  | raised {i : Instr} {e : ErrorKind} (hi : i ∈ needsDescriptor) (he : e ∈ commandErrors) :
      CommandEffect s i (s.raise e)
  /-- FMT_LOOKUP (40_control_and_descriptor.md R124) -/
  | lookedUp (v w : Nat) : CommandEffect s .fmtLookup ((s.setRes0 v).setRes1 w)
  /-- a calculated value in `RES0` (42_bank_pipe.md R143-R148, 43_address_resolver.md R176) -/
  | calculated {i : Instr} (hi : i ∈ calculates) (v : Nat) : CommandEffect s i (s.setRes0 v)
  /-- RESOLVE of an element inside the source buffer (43_address_resolver.md R170) -/
  | resolved {addr : Nat} (h : resolveElement s = .ok addr) : CommandEffect s .resolve (s.setRes0 addr)
  /-- RESOLVE of an element that leaves the source buffer (43_address_resolver.md R170) -/
  | resolvedOutside {addr : Nat} (h : resolveElement s = .ok addr)
      (ho : addressOutOfRange s.lat addr = true) :
      CommandEffect s .resolve (s.setRes0 addr).flagOutOfRange
  /-- FETCH (43_address_resolver.md R195) -/
  | fetched {addr : Nat} (h : resolveElement s = .ok addr) : CommandEffect s .fetch (s.fetchElement addr)
  /-- DECODE (44_block_decoder.md R210) -/
  | decoded (sel : Option BcClass) (v : Nat) : CommandEffect s (.decode sel) (s.setRes1 v)
  /-- FETCH_DECODE, which leaves texel 0 for a block outside the buffer (44_block_decoder.md R221) -/
  | fetchDecoded {addr v : Nat} (h : resolveElement s = .ok addr)
      (hv : addressOutOfRange s.lat addr = true → v = 0) :
      CommandEffect s .fetchDecode ((s.fetchElement addr).setRes1 v)

/-- A command that calculates from the latch ends in its value or in DescriptorNotLoaded. -/
theorem CommandEffect.of_latched {i : Instr} (hn : i ∈ needsDescriptor) (hc : i ∈ calculates) (v : Nat) :
    CommandEffect s i (if s.descValid then s.setRes0 v else s.raise .descriptorNotLoaded) := by
  split
  · exact .calculated hc v
  · exact .raised hn (by simp [commandErrors])

theorem mem_commandErrors_of_resolveElement {e : ErrorKind} (h : resolveElement s = .error e) :
    e ∈ commandErrors := by
  rcases resolveElement_error h with rfl | rfl | rfl <;> simp [commandErrors]

theorem mem_commandErrors_of_decodeClass {sel : Option BcClass} {e : ErrorKind}
    (h : decodeClass s sel = .error e) : e ∈ commandErrors := by
  obtain ⟨-, ⟨rfl, -⟩ | ⟨rfl, -⟩⟩ := decodeClass_error h <;> simp [commandErrors]

theorem execLoadDesc_effect (h : execLoadDesc s = .next t) : CommandEffect s .loadDesc t := by
  unfold execLoadDesc at h
  split at h
  · rename_i l hl
    cases h
    exact .committed hl
  · rename_i e he
    cases h
    exact .dropped he

theorem execResolve_effect (h : execResolve s = .next t) : CommandEffect s .resolve t := by
  unfold execResolve at h
  split at h
  · split at h
    · rename_i e he
      cases h
      exact .raised (by simp [needsDescriptor]) (mem_commandErrors_of_resolveElement he)
    · rename_i addr ha
      cases h
      split
      · rename_i ho
        exact .resolvedOutside ha ho
      · exact .resolved ha
  · cases h
    exact .raised (by simp [needsDescriptor]) (by simp [commandErrors])

theorem execFetch_effect (h : execFetch s = .next t) : CommandEffect s .fetch t := by
  unfold execFetch at h
  split at h
  · split at h
    · rename_i e he
      cases h
      exact .raised (by simp [needsDescriptor]) (mem_commandErrors_of_resolveElement he)
    · rename_i addr ha
      cases h
      exact .fetched ha
  · cases h
    exact .raised (by simp [needsDescriptor]) (by simp [commandErrors])

theorem execDecode_effect {sel : Option BcClass} (h : execDecode sel s = .next t) :
    CommandEffect s (.decode sel) t := by
  unfold execDecode at h
  split at h
  · rename_i e he
    cases h
    obtain ⟨rfl, -⟩ := decodeClass_error he
    exact .raised (by simp [needsDescriptor]) (mem_commandErrors_of_decodeClass he)
  · cases h
    exact .decoded sel _

theorem execFetchDecode_effect (h : execFetchDecode s = .next t) : CommandEffect s .fetchDecode t := by
  unfold execFetchDecode at h
  split at h
  · rename_i e he
    cases h
    exact .raised (by simp [needsDescriptor]) (mem_commandErrors_of_decodeClass he)
  · split at h
    · rename_i e he
      cases h
      exact .raised (by simp [needsDescriptor]) (mem_commandErrors_of_resolveElement he)
    · rename_i addr ha
      cases h
      exact .fetchDecoded ha fun ho => if_pos ho

/-- Every command that goes on ends in one of the effects. -/
theorem exec_effect {i : Instr} (h : exec i s = .next t) : CommandEffect s i t := by
  cases i with
  | nop => cases h; exact .idle
  | loadDesc => exact execLoadDesc_effect h
  | clearStatus => cases h; exact .acknowledged
  | fmtLookup => cases h; exact .lookedUp _ _
  | pipe => cases h; exact .calculated (by simp [calculates]) _
  | bank => cases h; exact .calculated (by simp [calculates]) _
  | rotation => cases h; exact .of_latched (by simp [needsDescriptor]) (by simp [calculates]) _
  | bswidth => cases h; exact .of_latched (by simp [needsDescriptor]) (by simp [calculates]) _
  | pixidx => cases h; exact .of_latched (by simp [needsDescriptor]) (by simp [calculates]) _
  | resolve => exact execResolve_effect h
  | fetch => exact execFetch_effect h
  | decode sel => exact execDecode_effect h
  | fetchDecode => exact execFetchDecode_effect h

/-! ## What a command never changes -/

namespace CommandEffect

variable {i : Instr}

/-- The host's registers, the parameters, the buffer and the host's order are no command's to write. -/
theorem host_state (h : CommandEffect s i t) :
    t.cfg = s.cfg ∧ t.desc = s.desc ∧ t.argX = s.argX ∧ t.argY = s.argY ∧ t.argT = s.argT ∧
      t.src = s.src ∧ t.pending = s.pending ∧ t.reads = s.reads := by
  cases h <;> simp

theorem latch_eq (h : CommandEffect s i t) (hi : i ≠ .loadDesc) :
    t.lat = s.lat ∧ t.descValid = s.descValid := by
  cases h with
  | committed | dropped => exact absurd rfl hi
  | _ => simp

theorem blk_eq (h : CommandEffect s i t) (hi : i ∉ [.fetch, .fetchDecode]) : t.blk = s.blk := by
  cases h with
  | fetched | fetchDecoded => simp at hi
  | _ => rfl

theorem res0_eq (h : CommandEffect s i t)
    (hi : i ∈ [.nop, .loadDesc, .clearStatus] ∨ ∃ sel, i = .decode sel) : t.res0 = s.res0 := by
  cases h with
  | calculated hc =>
    rcases hi with hi | ⟨sel, rfl⟩
    · fin_cases hi <;> simp [calculates] at hc
    · simp [calculates] at hc
  | lookedUp | resolved | resolvedOutside | fetched | fetchDecoded => simp at hi
  | _ => rfl

theorem res1_eq (h : CommandEffect s i t)
    (hi : i ∉ [.fmtLookup, .fetchDecode] ∧ ∀ sel, i ≠ .decode sel) : t.res1 = s.res1 := by
  obtain ⟨hno, hdec⟩ := hi
  cases h with
  | lookedUp | fetchDecoded => simp at hno
  | decoded sel => exact absurd rfl (hdec sel)
  | _ => simp


/-- Only CLEAR_STATUS clears a sticky flag. -/
theorem sticky (h : CommandEffect s i t) (hi : i ≠ .clearStatus) :
    (s.err = true → t.err = true) ∧ (s.oor = true → t.oor = true) := by
  cases h with
  | acknowledged => exact absurd rfl hi
  | _ => simp +contextual

end CommandEffect

/-- Settles O14: the parts of the frame, each read off the command's effect. -/
theorem commandFrame : Obligations.CommandFrame := by
  unfold Obligations.CommandFrame
  intro i s t h
  have heff := exec_effect h
  obtain ⟨hcfg, hdesc, hx, hy, ht, hsrc, hpending, hreads⟩ := heff.host_state
  exact ⟨hcfg, hdesc, hx, hy, ht, fun a => by rw [hsrc], hsrc, hpending, hreads, heff.latch_eq,
    heff.blk_eq, heff.res0_eq, heff.res1_eq, heff.sticky⟩

/-! ## An access outside the source buffer (60_exceptions.md R263) -/

/-- The address of an element that resolves outside the buffer, in the terms of the registers. -/
theorem exists_address_outside {addr : Nat} (h : resolveElement s = .ok addr)
    (ho : addressOutOfRange s.lat addr = true) :
    ∃ a, resolveAddr s.cfg s.lat s.argX.toNat s.argY.toNat = .ok a ∧
      s.lat.dataSize.toNat < a + s.lat.bpp / 8 ∧ low32 addr = BitVec.ofNat 32 a := by
  obtain ⟨-, -, hr⟩ := resolveElement_ok h
  exact ⟨addr, hr, of_decide_eq_true ho, rfl⟩

/-- Settles O16: only the three effects that leave the buffer set the flag. -/
theorem flagOnlyOutOfRange : Obligations.FlagOnlyOutOfRange := by
  unfold Obligations.FlagOnlyOutOfRange
  intro i s t hs h ht
  cases exec_effect h with
  | resolvedOutside hr ho => exact ⟨by simp, rfl, rfl, exists_address_outside hr ho, by simp, by simp⟩
  | @fetched addr hr =>
    have ho : addressOutOfRange s.lat addr = true := by simpa [hs] using ht
    rw [State.fetchElement_of_outside ho]
    exact ⟨by simp, rfl, rfl, exists_address_outside hr ho, fun _ => rfl, by simp⟩
  | @fetchDecoded addr v hr hv =>
    have ho : addressOutOfRange s.lat addr = true := by simpa [hs] using ht
    rw [State.fetchElement_of_outside ho, hv ho]
    exact ⟨by simp, rfl, rfl, exists_address_outside hr ho, fun _ => rfl, fun _ => rfl⟩
  | _ => simp [hs] at ht

/-! ## The invariant -/

/-- The default parameters are a configuration of the block (00_scope.md R6). -/
theorem Config.default_legal : Config.default.Legal := by decide

/-- The reset state of a legal configuration meets the invariant. -/
theorem State.resetWith_inv {c : Config} (hc : c.Legal) : (State.resetWith c).Inv where
  cfg_legal := hc
  src_wf := Memory.wf_nil
  latch_empty _ := rfl
  latch_checked h := by cases h
  errCode_known := Nat.zero_le _
  errCode_zero := iff_of_true rfl ⟨rfl, rfl⟩

/-- Settles O12: the default parameters are legal. -/
theorem resetMeetsInvariant : Obligations.ResetMeetsInvariant :=
  State.resetWith_inv Config.default_legal

/-- Where the block check passes, a code's class has the block size of its bpp
(40_control_and_descriptor.md R121). -/
theorem bitsPerPixel_of_classOf {c : Config} {f : Word} {cls : BcClass} (h : bcFormatOk c f = true)
    (hc : c.classOf f = some cls) : c.bitsPerPixel f = bcBits cls := by
  unfold bcFormatOk at h
  unfold Config.classOf at hc
  rcases hb : c.bcEntry f with _ | _ | k <;> simp_all

/-- What LOAD_DESC latches is checked (40_control_and_descriptor.md R113-R122). -/
theorem checked_of_checkDescriptor {c : Config} {d : DescRegs} {l : Latch}
    (h : checkDescriptor c d = .ok l) : Latch.Checked c l := by
  obtain ⟨hbpp, hfmt, hmode, hw, hh, hpitch, bsw, hbsw, rfl⟩ := checkDescriptor_ok h
  have hlatched : (latchOf c d bsw).mode = d.tileMode.toNat := by
    simp only [latchOf, Latch.mode, BitVec.toNat_setWidth]
    omega
  have hisBC : (latchOf c d bsw).isBC = c.isBlockCompressed d.format :=
    classOf_isSome_of_bcFormatOk hfmt
  exact {
    bpp_legal := hbpp
    bpp_format := rfl
    class_format := rfl
    class_bpp := fun cls hc => bitsPerPixel_of_classOf hfmt hc
    width_pos := hw
    height_pos := hh
    elemW_eq := by rw [hisBC]; rfl
    elemH_eq := by rw [hisBC]; rfl
    pitch_ge := hpitch
    tileClass_eq := by rw [hlatched]; rfl
    bsw_eq := by rw [hlatched]; exact hbsw }

/-- Every code of 60_exceptions.md R251 is between 1 and 0x0A. -/
theorem ErrorKind.code_range (e : ErrorKind) : e.code.toNat ≤ 0x0A ∧ e.code ≠ 0 := by
  cases e <;> decide

namespace State.Inv

/-- The invariant speaks of the parameters, the buffer, the latch and the error record only. -/
theorem of_eq (h : s.Inv) (hcfg : t.cfg = s.cfg) (hsrc : t.src = s.src)
    (hvalid : t.descValid = s.descValid) (hlat : t.lat = s.lat) (hcode : t.errCode = s.errCode)
    (herr : t.err = s.err) (hoor : t.oor = s.oor) : t.Inv := by
  obtain ⟨h1, h2, h3, h4, h5, h6⟩ := h
  exact ⟨hcfg ▸ h1, hsrc ▸ h2, by rwa [hvalid, hlat], by rwa [hvalid, hlat, hcfg], by rwa [hcode],
    by rwa [hcode, herr, hoor]⟩

theorem setPending (h : s.Inv) (p : List HostStep) : State.Inv { s with pending := p } :=
  h.of_eq rfl rfl rfl rfl rfl rfl rfl

theorem setRes0 (h : s.Inv) (v : Nat) : (s.setRes0 v).Inv := h.of_eq rfl rfl rfl rfl rfl rfl rfl

theorem setRes1 (h : s.Inv) (v : Nat) : (s.setRes1 v).Inv := h.of_eq rfl rfl rfl rfl rfl rfl rfl

theorem setBlk (h : s.Inv) (b : BlockRegs) : (s.setBlk b).Inv := h.of_eq rfl rfl rfl rfl rfl rfl rfl

theorem hostRead (h : s.Inv) (o : Nat) : (s.hostRead o).Inv := h.of_eq rfl rfl rfl rfl rfl rfl rfl

theorem writeReg (h : s.Inv) (r : Reg) (v : Word) : (s.writeReg r v).Inv :=
  h.of_eq (by simp) (by simp) (by simp) (by simp) (by simp) (by simp) (by simp)

theorem hostSetByte (h : s.Inv) (a : Word) (b : Byte) : (s.hostSetByte a b).Inv :=
  { h with src_wf := Memory.write_wf h.src_wf a.isLt b }

theorem raise (h : s.Inv) (e : ErrorKind) : (s.raise e).Inv :=
  { h with
    errCode_known := e.code_range.1
    errCode_zero := iff_of_false e.code_range.2 (by simp) }

theorem flagOutOfRange (h : s.Inv) : s.flagOutOfRange.Inv :=
  { h with
    errCode_known := by simp
    errCode_zero := by simp }

theorem acknowledge (h : s.Inv) : s.acknowledge.Inv :=
  { h with
    errCode_known := by simp
    errCode_zero := by simp }

theorem commit (h : s.Inv) {l : Latch} (hl : Latch.Checked s.cfg l) : (s.commit l).Inv :=
  { h with
    latch_empty := by simp
    latch_checked := fun _ => hl }

theorem dropLatch (h : s.Inv) : s.dropLatch.Inv :=
  { h with
    latch_empty := fun _ => rfl
    latch_checked := by simp }

theorem fetchElement (h : s.Inv) (addr : Nat) : (s.fetchElement addr).Inv := by
  rcases s.fetchElement_cases addr with ⟨-, heq⟩ | ⟨-, heq⟩ <;> rw [heq]
  · exact ((h.setRes0 addr).setBlk _).flagOutOfRange
  · exact (h.setRes0 addr).setBlk _

theorem resetBlock (h : s.Inv) : s.resetBlock.Inv :=
  { State.resetWith_inv h.cfg_legal with src_wf := h.src_wf }

theorem of_command {i : Instr} (hi : s.Inv) (h : CommandEffect s i t) : t.Inv := by
  cases h with
  | idle => exact hi
  | acknowledged => exact hi.acknowledge
  | committed hl => exact hi.commit (checked_of_checkDescriptor hl)
  | dropped => exact hi.dropLatch.raise _
  | raised => exact hi.raise _
  | lookedUp v w => exact (hi.setRes0 v).setRes1 w
  | calculated _ v => exact hi.setRes0 v
  | resolved => exact hi.setRes0 _
  | resolvedOutside => exact (hi.setRes0 _).flagOutOfRange
  | fetched => exact hi.fetchElement _
  | decoded _ v => exact hi.setRes1 v
  | fetchDecoded => exact (hi.fetchElement _).setRes1 _

end State.Inv

/-! ## What a step can do -/

/-- Every way an action of the host can go on, with the update it makes. -/
inductive HostEffect (s : State) : State → Prop
  /-- no action waits, or a write is ignored (10_state.md R44, R45) -/
  | idle : HostEffect s s
  /-- a command's word is written to `CMD` (10_state.md R33) -/
  | command {i : Instr} {t : State} (h : CommandEffect s i t) : HostEffect s t
  /-- any other word is written to `CMD` (60_exceptions.md R258) -/
  | illegal : HostEffect s (s.raise .illegalCommand)
  /-- another register is written (10_state.md R35-R45) -/
  | stored (r : Reg) (v : Word) : HostEffect s (s.writeReg r v)
  /-- the window is read (20_memory.md R79) -/
  | read (offset : Nat) : HostEffect s (s.hostRead offset)
  /-- the source buffer is given a byte (20_memory.md R72) -/
  | filled (a : Word) (b : Byte) : HostEffect s (s.hostSetByte a b)
  /-- the reset input (70_reset_and_hazards.md R280) -/
  | reset : HostEffect s s.resetBlock

theorem hostWrite_effect {offset : Nat} {v : Word} (h : hostWrite offset v s = .next t) :
    HostEffect s t := by
  obtain ⟨-, i, -, hexec⟩ | ⟨-, -, rfl⟩ | ⟨r, -, -, rfl⟩ | ⟨-, rfl⟩ := hostWrite_next h
  · exact .command (exec_effect hexec)
  · exact .illegal
  · exact .stored r v
  · exact .idle

theorem runHostStep_effect {a : HostStep} (h : runHostStep a s = .next t) : HostEffect s t := by
  obtain ⟨_, offset, v, -, -, -, hw⟩ | ⟨_, offset, -, -, -, rfl⟩ | ⟨addr, b, -, rfl⟩ | ⟨-, rfl⟩ :=
    runHostStep_next h
  · exact hostWrite_effect hw
  · exact .read offset
  · exact .filled addr b
  · exact .reset

/-- A step is an effect on the state with the host's order changed. -/
theorem step_effect (h : step s = .next t) : ∃ p, HostEffect { s with pending := p } t := by
  obtain ⟨-, ⟨-, rfl⟩ | ⟨a, rest, -, ha⟩⟩ := step_next h
  · exact ⟨t.pending, .idle⟩
  · exact ⟨rest, runHostStep_effect ha⟩

theorem State.Inv.of_host (hi : s.Inv) (h : HostEffect s t) : t.Inv := by
  cases h with
  | idle => exact hi
  | command h => exact hi.of_command h
  | illegal => exact hi.raise _
  | stored r v => exact hi.writeReg r v
  | read o => exact hi.hostRead o
  | filled a b => exact hi.hostSetByte a b
  | reset => exact hi.resetBlock

/-- Settles O13: each effect keeps the invariant. -/
theorem stepKeepsInvariant : Obligations.StepKeepsInvariant := by
  unfold Obligations.StepKeepsInvariant
  intro s t hi h
  obtain ⟨p, heff⟩ := step_effect h
  exact (hi.setPending p).of_host heff

/-! ## The configuration registers (10_state.md R43) -/

theorem HostEffect.cfg_eq (h : HostEffect s t) : t.cfg = s.cfg := by
  cases h with
  | command h =>
    obtain ⟨hcfg, -⟩ := h.host_state
    exact hcfg
  | stored r v => exact s.writeReg_cfg r v
  | _ => rfl

/-- A parameter that fits its register is read whole. -/
theorem readOffset_parameter {r : Reg} {v : Nat} (hr : s.readReg r = parameterWord r v)
    (hv : v < 2 ^ 32) : (s.readOffset r.offset).toNat = v := by
  rw [State.readOffset_of_atOffset r.atOffset_offset, hr, parameterWord_of_lt hv, BitVec.toNat_ofNat,
    Nat.mod_eq_of_lt hv]

theorem optionsWord_toNat (c : Config) :
    (optionsWord c).toNat = (c.slicePolicy == .noSlice).toNat + 2 * c.bc23Code2Four.toNat := by
  have hpolicy := (c.slicePolicy == .noSlice).toNat_le
  have hcode := c.bc23Code2Four.toNat_le
  rw [optionsWord, BitVec.toNat_ofNat, Nat.mod_eq_of_lt (by omega)]

/-- The fields of `CFG_OPTIONS`: the policy in bit 0, the BC2/BC3 option in bit 1, the rest 0. -/
theorem optionsWord_fields (c : Config) :
    (optionsWord c).getLsbD 0 = (c.slicePolicy == .noSlice) ∧
      (optionsWord c).getLsbD 1 = c.bc23Code2Four ∧ (optionsWord c).extractLsb' 2 30 = 0 := by
  have hword := optionsWord_toNat c
  have hpolicy := (c.slicePolicy == .noSlice).toNat_le
  have hcode := c.bc23Code2Four.toNat_le
  exact ⟨getLsbD_of_toNat (by omega), getLsbD_of_toNat (by omega), extractLsb'_eq_zero (by omega)⟩

/-- Settles O10: every effect keeps the parameters, and the registers' offsets ignore writes. -/
theorem configurationRegistersAreFixed : Obligations.ConfigurationRegistersAreFixed := by
  unfold Obligations.ConfigurationRegistersAreFixed
  refine ⟨fun s t h => ?_, fun s hl => ?_⟩
  · obtain ⟨p, heff⟩ := step_effect h
    exact heff.cfg_eq
  · obtain ⟨hpipes, hbanks⟩ := Config.pipes_banks_lt_of_legal hl
    obtain ⟨hpolicy, hcode, hrest⟩ := optionsWord_fields s.cfg
    have hignored : [0x60, 0x64, 0x68, 0x6C, 0x70, 0x74, 0x78] ⊆ ignoringWindow := by decide
    exact ⟨readOffset_parameter (r := .cfgPipes) rfl hpipes,
      readOffset_parameter (r := .cfgBanks) rfl hbanks,
      readOffset_parameter (r := .cfgGroupSize) rfl, readOffset_parameter (r := .cfgRowSize) rfl,
      readOffset_parameter (r := .cfgSwapSize) rfl, readOffset_parameter (r := .cfgSplitSize) rfl,
      hpolicy, hcode, hrest, fun rest offset v ho hp => step_write_ignored hl (hignored ho) hp⟩

end Sys2Proof.Machine
end

section
/-! The source buffer (20_memory.md): a register access must be an aligned word (R76), and no command sees a
byte of the buffer outside the latched data size (R71, R72, R78). -/

namespace Sys2Proof.Machine

variable {s t : State}

/-! ## A register access that is not an aligned word (20_memory.md R76) -/

theorem alignedWord_eq_false_iff {width offset : Nat} :
    alignedWord width offset = false ↔ width ≠ 4 ∨ offset % 4 ≠ 0 := by
  rw [alignedWord, Bool.and_eq_false_iff, beq_eq_false_iff_ne, beq_eq_false_iff_ne]

/-- The alignment check comes first: it refuses wherever the offset is. -/
theorem checkedAccess_of_unaligned {width offset : Nat} (go : Host.Outcome State Fault Refusal)
    (h : alignedWord width offset = false) :
    checkedAccess width offset go = .refused (.unalignedAccess width offset) :=
  if_pos h

/-- Settles O8: a read and a write pass through the same check. -/
theorem unalignedAccessRefused : Obligations.UnalignedAccessRefused := by
  unfold Obligations.UnalignedAccessRefused
  intro s rest width offset hl hbad hpending
  have hunaligned := alignedWord_eq_false_iff.mpr hbad
  rcases hpending with hp | ⟨v, hp⟩
  · exact (step_of_pending hl hp).trans (checkedAccess_of_unaligned _ hunaligned)
  · exact (step_of_pending hl hp).trans (checkedAccess_of_unaligned _ hunaligned)

/-! ## What each branching command does, one equation for each way it can end -/

section Equations

variable {l : Latch} {e : ErrorKind} {addr : Nat} {cls : BcClass} {sel : Option BcClass}

theorem execLoadDesc_of_ok (h : checkDescriptor s.cfg s.desc = .ok l) :
    execLoadDesc s = .next (s.commit l) := by
  rw [execLoadDesc, h]

theorem execLoadDesc_of_error (h : checkDescriptor s.cfg s.desc = .error e) :
    execLoadDesc s = .next (s.dropLatch.raise e) := by
  rw [execLoadDesc, h]

theorem execResolve_of_notLoaded (hv : s.descValid = false) :
    execResolve s = .next (s.raise .descriptorNotLoaded) :=
  if_neg (by simp [hv])

theorem execResolve_of_error (hv : s.descValid = true) (h : resolveElement s = .error e) :
    execResolve s = .next (s.raise e) := by
  rw [execResolve, if_pos hv, h]

theorem execResolve_of_ok (hv : s.descValid = true) (h : resolveElement s = .ok addr) :
    execResolve s =
      .next (if addressOutOfRange s.lat addr then (s.setRes0 addr).flagOutOfRange
        else s.setRes0 addr) := by
  rw [execResolve, if_pos hv, h]

theorem execFetch_of_notLoaded (hv : s.descValid = false) :
    execFetch s = .next (s.raise .descriptorNotLoaded) :=
  if_neg (by simp [hv])

theorem execFetch_of_error (hv : s.descValid = true) (h : resolveElement s = .error e) :
    execFetch s = .next (s.raise e) := by
  rw [execFetch, if_pos hv, h]

theorem execFetch_of_ok (hv : s.descValid = true) (h : resolveElement s = .ok addr) :
    execFetch s = .next (s.fetchElement addr) := by
  rw [execFetch, if_pos hv, h]

theorem execDecode_of_error (h : decodeClass s sel = .error e) :
    execDecode sel s = .next (s.raise e) := by
  rw [execDecode, h]

theorem execDecode_of_ok (h : decodeClass s sel = .ok cls) :
    execDecode sel s = .next (s.setRes1 (decodeTexel s.cfg s.blk cls s.tx s.ty)) := by
  rw [execDecode, h]

theorem execFetchDecode_of_class_error (h : decodeClass s none = .error e) :
    execFetchDecode s = .next (s.raise e) := by
  rw [execFetchDecode, h]

theorem execFetchDecode_of_resolve_error (hc : decodeClass s none = .ok cls)
    (h : resolveElement s = .error e) : execFetchDecode s = .next (s.raise e) := by
  rw [execFetchDecode, hc, h]

theorem execFetchDecode_of_ok (hc : decodeClass s none = .ok cls) (h : resolveElement s = .ok addr) :
    execFetchDecode s =
      .next ((s.fetchElement addr).setRes1 (if addressOutOfRange s.lat addr then 0
        else decodeTexel s.cfg (s.fetchElement addr).blk cls s.tx s.ty)) := by
  rw [execFetchDecode, hc, h]

end Equations

/-! ## The same state over another buffer -/

/-- The state with the host's buffer replaced by `m`. -/
abbrev State.withSource (s : State) (m : Memory) : State := { s with src := m }

/-- The command does over the buffer `m` what it does over the state's own: no part of its result but the
buffer itself tells the two apart. -/
def SameOver (m : Memory) (i : Instr) (s : State) : Prop :=
  ∀ t, exec i s = .next t → exec i (s.withSource m) = .next (t.withSource m)

variable {m : Memory} {i : Instr}

/-- Where the results over the two buffers are known, it is enough that they agree. -/
theorem SameOver.of_next {u : State} (h : exec i s = .next u)
    (hm : exec i (s.withSource m) = .next (u.withSource m)) : SameOver m i s := by
  intro t ht
  cases h.symm.trans ht
  exact hm

/-- An element inside the latched data size has all its bytes below it (43_address_resolver.md R186). -/
theorem le_dataSize_of_inside {l : Latch} {addr : Nat} (h : addressOutOfRange l addr = false) :
    addr + l.span ≤ l.dataSize.toNat :=
  Nat.le_of_not_lt (of_decide_eq_false h)

/-- A fetch inside the buffer reads the element's bytes. -/
theorem State.fetchElement_of_inside {addr : Nat} (ho : addressOutOfRange s.lat addr = false) :
    s.fetchElement addr =
      (s.setRes0 addr).setBlk (BlockRegs.ofBytes (s.src.readSpan addr s.lat.span)) :=
  if_neg (by simp [ho])

/-- A fetch sees the buffer below the latched data size only: an element that leaves it is not read. -/
theorem State.fetchElement_withSource (hm : ∀ a, a < s.lat.dataSize.toNat → m.read a = s.src.read a)
    (addr : Nat) : (s.withSource m).fetchElement addr = (s.fetchElement addr).withSource m := by
  cases ho : addressOutOfRange s.lat addr with
  | true =>
    rw [fetchElement_of_outside ho, fetchElement_of_outside (s := s.withSource m) ho]
    rfl
  | false =>
    have hend := le_dataSize_of_inside ho
    have hspan : m.readSpan addr s.lat.span = s.src.readSpan addr s.lat.span :=
      Memory.readSpan_congr fun k hk => hm _ (by omega)
    rw [fetchElement_of_inside ho, fetchElement_of_inside (s := s.withSource m) ho, hspan]
    rfl

/-! ## What each command sees of the buffer -/

theorem sameOver_loadDesc : SameOver m .loadDesc s := by
  cases hd : checkDescriptor s.cfg s.desc with
  | ok l => exact .of_next (execLoadDesc_of_ok hd) (execLoadDesc_of_ok (s := s.withSource m) hd)
  | error e => exact .of_next (execLoadDesc_of_error hd) (execLoadDesc_of_error (s := s.withSource m) hd)

theorem sameOver_decode (sel : Option BcClass) : SameOver m (.decode sel) s := by
  cases hc : decodeClass s sel with
  | ok cls => exact .of_next (execDecode_of_ok hc) (execDecode_of_ok (s := s.withSource m) hc)
  | error e => exact .of_next (execDecode_of_error hc) (execDecode_of_error (s := s.withSource m) hc)

/-- A command whose value or error is chosen by a test of a register. -/
theorem SameOver.of_ite {b : Bool} {u v : State} (h : exec i s = .next (if b then u else v))
    (hm : exec i (s.withSource m) = .next (if b then u.withSource m else v.withSource m)) :
    SameOver m i s :=
  .of_next h (hm.trans (congrArg _ (apply_ite (State.withSource · m) _ u v).symm))

theorem sameOver_resolve : SameOver m .resolve s := by
  cases hv : s.descValid with
  | false =>
    exact .of_next (execResolve_of_notLoaded hv) (execResolve_of_notLoaded (s := s.withSource m) hv)
  | true =>
    cases hr : resolveElement s with
    | error e =>
      exact .of_next (execResolve_of_error hv hr) (execResolve_of_error (s := s.withSource m) hv hr)
    | ok addr => exact .of_ite (execResolve_of_ok hv hr) (execResolve_of_ok (s := s.withSource m) hv hr)

/-- Every command but FETCH and FETCH_DECODE. -/
theorem sameOver_of_not_readsSource (hi : i ∉ readsSource) : SameOver m i s := by
  cases i with
  | nop | clearStatus | fmtLookup | pipe | bank => exact .of_next rfl rfl
  | rotation | bswidth | pixidx => exact .of_ite rfl rfl
  | loadDesc => exact sameOver_loadDesc
  | decode sel => exact sameOver_decode sel
  | resolve => exact sameOver_resolve
  | fetch | fetchDecode => exact absurd hi (by decide)

section Fetching

variable (hm : ∀ a, a < s.lat.dataSize.toNat → m.read a = s.src.read a)
include hm

theorem sameOver_fetch : SameOver m .fetch s := by
  cases hv : s.descValid with
  | false => exact .of_next (execFetch_of_notLoaded hv) (execFetch_of_notLoaded (s := s.withSource m) hv)
  | true =>
    cases hr : resolveElement s with
    | error e => exact .of_next (execFetch_of_error hv hr) (execFetch_of_error (s := s.withSource m) hv hr)
    | ok addr =>
      refine .of_next (execFetch_of_ok hv hr) ?_
      rw [← State.fetchElement_withSource hm]
      exact execFetch_of_ok (s := s.withSource m) hv hr

theorem sameOver_fetchDecode : SameOver m .fetchDecode s := by
  cases hc : decodeClass s none with
  | error e =>
    exact .of_next (execFetchDecode_of_class_error hc)
      (execFetchDecode_of_class_error (s := s.withSource m) hc)
  | ok cls =>
    cases hr : resolveElement s with
    | error e =>
      exact .of_next (execFetchDecode_of_resolve_error hc hr)
        (execFetchDecode_of_resolve_error (s := s.withSource m) hc hr)
    | ok addr =>
      have hstep := execFetchDecode_of_ok (s := s.withSource m) hc hr
      rw [State.fetchElement_withSource hm] at hstep
      exact .of_next (execFetchDecode_of_ok hc hr) hstep

end Fetching

/-- Settles O20: the two fetching commands read below the data size, the others read no buffer. -/
theorem readsOnlyBelowDataSize : Obligations.ReadsOnlyBelowDataSize := by
  unfold Obligations.ReadsOnlyBelowDataSize
  intro i s t m h hm
  by_cases hi : i ∈ readsSource
  · have hbelow := hm hi
    rcases List.mem_pair.mp hi with rfl | rfl
    · exact sameOver_fetch hbelow t h
    · exact sameOver_fetchDecode hbelow t h
  · exact sameOver_of_not_readsSource hi t h

end Sys2Proof.Machine
end

section
/-! The command word (30_encoding.md): the decoder accepts exactly the words of the opcode map, the encoder is
its inverse, a word outside the map raises IllegalCommand, and LOADDESC is its writes and then its command. -/

namespace Sys2Proof

variable {w : Word} {i : Instr} {op : BitVec 8} {b : BitVec 2} {sel : Option BcClass}

/-! ## The opcode map (30_encoding.md R94, R95) -/

/-- One command for each row of the opcode map, DECODE's with `BCSEL` 0. -/
def Instr.rows : List Instr :=
  [.nop, .loadDesc, .clearStatus, .fmtLookup, .pipe, .bank, .rotation, .bswidth, .pixidx, .resolve, .fetch,
   .decode none, .fetchDecode]

/-- Every opcode is one of a row. -/
theorem Instr.opcode_mem_rows (i : Instr) : i.opcode.toNat ∈ Instr.rows.map (·.opcode.toNat) := by
  cases i with
  | decode sel => exact List.mem_map.mpr ⟨.decode none, by decide, rfl⟩
  | _ => decide

theorem Instr.bcsel_of_mem_rows (h : i ∈ Instr.rows) : i.bcsel = 0 := by
  revert i
  decide

/-- Only DECODE has a `BCSEL` other than 0 (30_encoding.md R93). -/
theorem Instr.bcsel_eq_zero_or_opcode (i : Instr) : i.bcsel = 0 ∨ i.opcode = 0x30#8 := by
  cases i with
  | decode sel => exact .inr rfl
  | _ => exact .inl rfl

/-- A selector is stored in the `BCSEL` it is read from. -/
theorem Instr.bcsel_decode_selectorOf (b : BitVec 2) : (Instr.decode (selectorOf b)).bcsel = b := by
  revert b
  decide

/-- What the map can answer: DECODE with the selector, or a command without one. -/
theorem instrOf_eq_some (h : instrOf op sel = some i) :
    op = i.opcode ∧ (i = .decode sel ∨ (op ≠ 0x30#8 ∧ i.bcsel = 0)) := by
  unfold instrOf at h
  split at h <;> cases h
  case h_12 => exact ⟨rfl, .inl rfl⟩
  all_goals exact ⟨rfl, .inr ⟨by decide, rfl⟩⟩

/-- The map finds each command at its own fields. -/
theorem instrOf_opcode (i : Instr) : instrOf i.opcode (selectorOf i.bcsel) = some i := by
  cases i with
  | decode sel => rcases sel with _ | _ | _ | _ <;> rfl
  | _ => rfl

/-! ## The decoder (30_encoding.md R96) -/

/-- The decoder's three checks, all of which a command passes. -/
theorem decode_eq_ok_iff_checks :
    decode w = .ok i ↔ reservedOf w = 0 ∧ instrOf (opcodeOf w) (selectorOf (bcselOf w)) = some i ∧
      (bcselOf w = 0 ∨ opcodeOf w = 0x30#8) := by
  unfold decode
  split
  case isTrue hres => exact ⟨nofun, fun ⟨hzero, _⟩ => absurd hzero hres⟩
  case isFalse hres =>
    have hzero := not_not.mp hres
    split
    case h_1 hmap =>
      rw [hmap]
      exact ⟨nofun, fun ⟨_, hsome, _⟩ => nomatch hsome⟩
    case h_2 j hmap =>
      rw [hmap, Option.some.injEq, and_iff_right hzero]
      split
      case isTrue hsel => rw [Except.ok.injEq, and_iff_left hsel]
      case isFalse hsel => exact ⟨nofun, fun ⟨_, hok⟩ => absurd hok hsel⟩

/-- The map and the check on `BCSEL` together fix both fields. -/
theorem instrOf_eq_some_iff_fields :
    (instrOf op (selectorOf b) = some i ∧ (b = 0 ∨ op = 0x30#8)) ↔ op = i.opcode ∧ b = i.bcsel := by
  constructor
  · rintro ⟨hmap, hsel⟩
    obtain ⟨hop, rfl | ⟨hne, hzero⟩⟩ := instrOf_eq_some hmap
    · exact ⟨hop, (Instr.bcsel_decode_selectorOf b).symm⟩
    · exact ⟨hop, (hsel.resolve_right hne).trans hzero.symm⟩
  · rintro ⟨rfl, rfl⟩
    exact ⟨instrOf_opcode i, i.bcsel_eq_zero_or_opcode⟩

/-- A word decodes to a command exactly when it has the command's fields and nothing else. -/
theorem decode_eq_ok_iff :
    decode w = .ok i ↔ reservedOf w = 0 ∧ opcodeOf w = i.opcode ∧ bcselOf w = i.bcsel := by
  rw [decode_eq_ok_iff_checks, instrOf_eq_some_iff_fields]

/-! ## The encoder (30_encoding.md R90) -/

/-- The encoding of every command has the command's fields. -/
theorem encode_fields (i : Instr) : Laws.FieldPlacement.Statement i := by
  cases i with
  | nop => exact Laws.FieldPlacement.nop
  | loadDesc => exact Laws.FieldPlacement.loadDesc
  | clearStatus => exact Laws.FieldPlacement.clearStatus
  | fmtLookup => exact Laws.FieldPlacement.fmtLookup
  | pipe => exact Laws.FieldPlacement.pipe
  | bank => exact Laws.FieldPlacement.bank
  | rotation => exact Laws.FieldPlacement.rotation
  | bswidth => exact Laws.FieldPlacement.bswidth
  | pixidx => exact Laws.FieldPlacement.pixidx
  | resolve => exact Laws.FieldPlacement.resolve
  | fetch => exact Laws.FieldPlacement.fetch
  | decode sel => exact Laws.FieldPlacement.decode sel
  | fetchDecode => exact Laws.FieldPlacement.fetchDecode

theorem decode_encode (i : Instr) : decode (encode i) = .ok i := by
  obtain ⟨hop, hsel, hres⟩ := encode_fields i
  exact decode_eq_ok_iff.mpr ⟨hres, hop, hsel⟩

/-- The three fields are disjoint and cover the word: its number is their sum. -/
theorem toNat_eq_fields (w : Word) :
    w.toNat = (opcodeOf w).toNat + 2 ^ 8 * (bcselOf w).toNat + 2 ^ 10 * (reservedOf w).toNat := by
  have hw := w.isLt
  simp only [opcodeOf, bcselOf, reservedOf, Machine.extractLsb'_toNat_eq]
  omega

theorem eq_encode_of_decode (h : decode w = .ok i) : w = encode i := by
  obtain ⟨hres, hop, hsel⟩ := decode_eq_ok_iff.mp h
  obtain ⟨hop', hsel', hres'⟩ := encode_fields i
  apply BitVec.eq_of_toNat_eq
  rw [toNat_eq_fields w, toNat_eq_fields (encode i), hop, hsel, hres, hop', hsel', hres']

/-- Settles O1: a command and its word have the same fields, and the fields are the whole word. -/
theorem encodeAndDecodeAreInverse : Obligations.EncodeAndDecodeAreInverse := by
  unfold Obligations.EncodeAndDecodeAreInverse
  exact ⟨fun i _ => decode_encode i, fun _ _ => eq_encode_of_decode⟩

/-! ## The words that are commands, in numbers (30_encoding.md R93-R96) -/

theorem opcodeOf_toNat (w : Word) : (opcodeOf w).toNat = w.toNat % 256 := by
  simp [opcodeOf]

theorem reservedOf_eq_zero_iff : reservedOf w = 0 ↔ w.toNat < 2 ^ 10 := by
  have hfields := toNat_eq_fields w
  have hop := (opcodeOf w).isLt
  have hsel := (bcselOf w).isLt
  rw [← BitVec.toNat_inj]
  change (reservedOf w).toNat = 0 ↔ w.toNat < 2 ^ 10
  omega

theorem bcselOf_eq_zero_iff (hres : w.toNat < 2 ^ 10) : bcselOf w = 0 ↔ w.toNat / 256 = 0 := by
  have hfields := toNat_eq_fields w
  have hop := opcodeOf_toNat w
  rw [← BitVec.toNat_inj]
  change (bcselOf w).toNat = 0 ↔ w.toNat / 256 = 0
  omega

/-- Some command has these fields exactly when the opcode is in the map and `BCSEL` is 0 unless the opcode
is DECODE's. -/
theorem exists_fields_iff :
    (∃ i : Instr, op = i.opcode ∧ b = i.bcsel) ↔
      op.toNat ∈ Instr.rows.map (·.opcode.toNat) ∧ (b = 0 ∨ op = 0x30#8) := by
  constructor
  · rintro ⟨i, rfl, rfl⟩
    exact ⟨i.opcode_mem_rows, i.bcsel_eq_zero_or_opcode⟩
  · rintro ⟨hmem, rfl | rfl⟩
    · obtain ⟨i, hi, hop⟩ := List.mem_map.mp hmem
      exact ⟨i, (BitVec.eq_of_toNat_eq hop).symm, (Instr.bcsel_of_mem_rows hi).symm⟩
    · exact ⟨.decode (selectorOf b), rfl, (Instr.bcsel_decode_selectorOf b).symm⟩

/-- A word is a command exactly when its number says so. -/
theorem exists_decode_iff :
    (∃ i, decode w = .ok i) ↔
      w.toNat < 2 ^ 10 ∧ w.toNat % 256 ∈ Instr.rows.map (·.opcode.toNat) ∧
        (w.toNat / 256 = 0 ∨ w.toNat % 256 = 0x30) := by
  have hdecodeOp : opcodeOf w = 0x30#8 ↔ w.toNat % 256 = 0x30 := by
    rw [← opcodeOf_toNat]
    exact BitVec.toNat_inj.symm
  simp only [decode_eq_ok_iff, exists_and_left, exists_fields_iff, opcodeOf_toNat, hdecodeOp,
    reservedOf_eq_zero_iff]
  exact and_congr_right fun hres => by rw [bcselOf_eq_zero_iff hres]

/-- Settles O2: the fields of a command, in bits and in numbers; `Instr.rows` has the listed opcodes. -/
theorem decodeAcceptsExactlyTheMap : Obligations.DecodeAcceptsExactlyTheMap := by
  unfold Obligations.DecodeAcceptsExactlyTheMap
  exact fun w => ⟨fun i => decode_eq_ok_iff, exists_decode_iff⟩

/-- Settles O3: eight of the words are the encodings of their commands, three are evaluated. -/
theorem specWordsDecode : Obligations.SpecWordsDecode := by
  unfold Obligations.SpecWordsDecode
  exact ⟨decode_encode .nop, decode_encode .loadDesc, decode_encode .rotation, decode_encode .fetch,
    decode_encode (.decode none), decode_encode (.decode (some .bc1)), decode_encode (.decode (some .bc2)),
    decode_encode (.decode (some .bc3)), rfl, rfl, rfl⟩

namespace Machine

variable {s : State}

/-! ## A word that is no command (30_encoding.md R93, R95) -/

/-- A write to `CMD` of a word that no command has raises IllegalCommand (60_exceptions.md R258). -/
theorem runHostStep_illegal (h : ∀ i, decode w ≠ .ok i) (s : State) :
    runHostStep (.write 4 Reg.cmd.offset w) s = .next (s.raise .illegalCommand) := by
  rw [runHostStep_write rfl rfl]
  show runCommand w s = .next (s.raise .illegalCommand)
  cases hd : decode w with
  | ok i => exact absurd hd (h i)
  | error e => simp [runCommand, hd]

/-- The opcodes of the map avoid the reserved ranges (30_encoding.md R95). -/
theorem opcode_not_reserved {n : Nat} (h : n ∈ Instr.rows.map (·.opcode.toNat)) :
    ¬ ((0x04 ≤ n ∧ n ≤ 0x0F) ∨ (0x14 ≤ n ∧ n ≤ 0x1F) ∨ (0x23 ≤ n ∧ n ≤ 0x2F) ∨ (0x32 ≤ n ∧ n ≤ 0xFF)) := by
  revert n
  decide

/-- Settles O5: each of the three kinds of word fails a field of every command. -/
theorem illegalCommandWriteRaises : Obligations.IllegalCommandWriteRaises := by
  unfold Obligations.IllegalCommandWriteRaises
  intro s rest w hl hp hbad
  rw [step_of_pending hl hp]
  refine runHostStep_illegal (fun i hd => ?_) _
  obtain ⟨hres, hop, hsel⟩ := decode_eq_ok_iff.mp hd
  have hmem := i.opcode_mem_rows
  rw [← hop] at hmem
  rcases hbad with hreserved | ⟨hstray, hnotDecode⟩ | ⟨_, rfl, hrange⟩
  · exact hreserved hres
  · rcases i.bcsel_eq_zero_or_opcode with hzero | hdecode
    · exact hstray (hsel.trans hzero)
    · exact hnotDecode (hop.trans hdecode)
  · exact opcode_not_reserved hmem hrange

/-! ## The pseudo-instruction LOADDESC (30_encoding.md R98) -/

/-- A program's last command ends it with the command's own outcome. -/
theorem runSteps_issue (hl : s.cfg.Legal) (i : Instr) : runSteps [issue i] s = exec i s := by
  have hstep : step { s with pending := issue i :: s.pending } = exec i s := by
    rw [step_of_pending (s := { s with pending := issue i :: s.pending }) hl rfl]
    exact runHostStep_command (decode_encode i) s
  rw [runSteps, hstep]
  cases exec i s <;> rfl

/-- SETDESC's seven writes, as registers with their values. -/
def setDescWrites (w h p m z f n : Word) : List (Reg × Word) :=
  [(.descWidth, w), (.descHeight, h), (.descPitch, p), (.descTileMode, m), (.descSwizzle, z),
   (.descFormat, f), (.descDataSize, n)]

/-- The seven writes fill the live descriptor and reach no other field. -/
theorem foldl_writeReg_setDescWrites (s : State) (w h p m z f n : Word) :
    (setDescWrites w h p m z f n).foldl (fun u q => u.writeReg q.1 q.2) s =
      { s with desc := ⟨w, h, p, m.extractLsb' 0 5, z, f, n⟩ } :=
  rfl

/-- Settles O57: the writes fill the live descriptor, and the command runs there. -/
theorem loadDescProgramWritesThenIssues : Obligations.LoadDescProgramWritesThenIssues := by
  unfold Obligations.LoadDescProgramWritesThenIssues
  intro s w h p m z f n hl
  have hmode : m.extractLsb' 0 5 = BitVec.ofNat 5 (m.toNat % 32) :=
    extractLsb'_of_toNat (by rw [BitVec.toNat_ofNat]; omega)
  calc runSteps (AsmLine.loadDesc w h p m z f n).expand s
      = runSteps [issue .loadDesc]
          ((setDescWrites w h p m z f n).foldl (fun u q => u.writeReg q.1 q.2) s) :=
        runSteps_writes (ws := setDescWrites w h p m z f n) (by simp [setDescWrites]) hl _
    _ = exec .loadDesc { s with desc := ⟨w, h, p, BitVec.ofNat 5 (m.toNat % 32), z, f, n⟩ } := by
        rw [foldl_writeReg_setDescWrites, hmode]
        exact runSteps_issue (by exact hl) .loadDesc

end Machine

end Sys2Proof
end

section
/-! The control, descriptor and format commands (40_control_and_descriptor.md): what NOP and CLEAR_STATUS leave
alone, what FMT_LOOKUP answers, and the checks of LOAD_DESC in their order with what each outcome latches. -/

namespace Sys2Proof

/-! ## The format tables (10_state.md R50, R51) -/

namespace Config

variable {c : Config} {f : Word} {cls : Option BcClass}

/-- The table is indexed by the code's low six bits (40_control_and_descriptor.md R114). -/
theorem bitsPerPixel_eq_getD (c : Config) (f : Word) :
    c.bitsPerPixel f = c.formatBpp.getD (f.toNat % 64) 0 :=
  congrArg (c.formatBpp.getD · 0) (Nat.and_two_pow_sub_one_eq_mod f.toNat 6)

theorem bcEntry_eq_none_iff : c.bcEntry f = none ↔ ∀ k, (f, k) ∉ c.bcSet := by
  rw [bcEntry, Option.map_eq_none_iff, List.find?_eq_none]
  constructor
  · intro h k hmem
    exact h (f, k) hmem (beq_self_eq_true f)
  · rintro h ⟨g, k⟩ hmem heq
    obtain rfl : g = f := eq_of_beq heq
    exact h k hmem

/-- Whatever entry is found is one of the set. -/
theorem mem_of_bcEntry (h : c.bcEntry f = some cls) : (f, cls) ∈ c.bcSet := by
  obtain ⟨⟨g, k⟩, hfind, rfl⟩ := Option.map_eq_some_iff.mp h
  have heq : (g == f) = true := List.find?_some (p := fun e : Word × Option BcClass => e.1 == f) hfind
  obtain rfl : g = f := eq_of_beq heq
  exact List.mem_of_find?_eq_some hfind

/-- A code of the set has one entry, as no code is listed twice. -/
theorem bcEntry_eq_some_iff (hl : c.BcSetLegal) : c.bcEntry f = some cls ↔ (f, cls) ∈ c.bcSet := by
  refine ⟨mem_of_bcEntry, fun hmem => ?_⟩
  cases hentry : c.bcEntry f with
  | none => exact absurd hmem (bcEntry_eq_none_iff.mp hentry cls)
  | some k =>
    have heq : (f, k) = (f, cls) := List.inj_on_of_nodup_map hl (mem_of_bcEntry hentry) hmem rfl
    cases heq
    rfl

end Config

namespace Machine

variable {c : Config} {f : Word} {cls : Option BcClass}

/-! ## FMT_LOOKUP (40_control_and_descriptor.md R124) -/

theorem classWord_of_not_mem (h : ∀ k, (f, k) ∉ c.bcSet) : classWord c f = 0 := by
  simp [classWord, Config.isBlockCompressed, Config.bcEntry_eq_none_iff.mpr h]

theorem classWord_of_mem (hl : c.BcSetLegal) (h : (f, cls) ∈ c.bcSet) :
    classWord c f = 1 + 2 * classNumber cls := by
  simp [classWord, Config.isBlockCompressed, Config.classOf, (Config.bcEntry_eq_some_iff hl).mpr h]

/-- Settles O24: the entry of the code in `BC_SET`, or its absence, fixes the class word. -/
theorem fmtLookupResult : Obligations.FmtLookupResult := by
  unfold Obligations.FmtLookupResult
  intro s hl
  obtain ⟨-, -, hset⟩ := hl
  refine ⟨low32 (classWord s.cfg s.desc.format), ?_, fun hno => ?_, fun cls hmem => ?_⟩
  · rw [← Config.bitsPerPixel_eq_getD]
    rfl
  · rw [classWord_of_not_mem hno]
    rfl
  · have hnumber := classNumber_le cls
    rw [classWord_of_mem hset hmem, BitVec.toNat_ofNat, Nat.mod_eq_of_lt (by omega)]

/-! ## NOP (40_control_and_descriptor.md R111) -/

/-- Settles O22: a command with opcode 0 has every other field 0 too, so its word is 0. -/
theorem nopChangesNothing : Obligations.NopChangesNothing := by
  unfold Obligations.NopChangesNothing
  refine ⟨fun s => rfl, fun w hop hrest => ?_⟩
  cases hd : decode w with
  | error e => exact ⟨e, rfl⟩
  | ok i =>
    obtain ⟨hres, hopcode, hsel⟩ := decode_eq_ok_iff.mp hd
    have hzero : i.opcode = 0 := hopcode.symm.trans hop
    have hbcsel : i.bcsel = 0 := i.bcsel_eq_zero_or_opcode.resolve_right (by rw [hzero]; decide)
    have hword : w = 0 := by
      apply BitVec.eq_of_toNat_eq
      rw [toNat_eq_fields w, hopcode, hsel, hres, hzero, hbcsel]
      rfl
    exact absurd (by rw [hword]; rfl) hrest

/-! ## CLEAR_STATUS (40_control_and_descriptor.md R112) -/

/-- The number of two fields side by side. -/
theorem toNat_append_eq_add {m n : Nat} (x : BitVec m) (y : BitVec n) :
    (x ++ y).toNat = 2 ^ n * x.toNat + y.toNat := by
  rw [BitVec.toNat_append, ← Nat.shiftLeft_add_eq_or_of_lt y.isLt, Nat.shiftLeft_eq, Nat.mul_comm]

/-- `STATUS` with the given upper half, `ERRCODE`, `ERR`, `OOR` and `DESC_VALID` (10_state.md R34). -/
def statusFields (views : BitVec 16) (code : BitVec 8) (err oor valid : Bool) : Word :=
  views ++ code ++ 0#5 ++ BitVec.ofBool err ++ BitVec.ofBool oor ++ BitVec.ofBool valid

theorem State.statusWord_eq_statusFields (s : State) :
    s.statusWord = statusFields (BitVec.ofNat 16 (if s.descValid then s.lat.view else 0)) s.errCode
      s.err s.oor s.descValid := by
  have hview : (if s.descValid then s.lat.view else 0) < 2 ^ 16 := by
    split
    · exact s.lat.view_lt
    · decide
  apply BitVec.eq_of_toNat_eq
  rw [statusFields, s.statusWord_toNat]
  simp only [toNat_append_eq_add, BitVec.toNat_ofNat, BitVec.toNat_ofBool, Nat.mod_eq_of_lt hview]
  omega

/-- The mask 0xFFFF00F9 clears the error fields and keeps the rest. -/
theorem statusFields_and_mask (views : BitVec 16) (code : BitVec 8) (err oor valid : Bool) :
    statusFields views code err oor valid &&& 0xFFFF00F9#32 =
      statusFields views 0 false false valid := by
  have hfields : (views ++ code ++ 0#5 ++ BitVec.ofBool err ++ BitVec.ofBool oor ++
      BitVec.ofBool valid) &&&
      (BitVec.allOnes 16 ++ 0#8 ++ BitVec.allOnes 5 ++ 0#1 ++ 0#1 ++ BitVec.allOnes 1) =
      views ++ 0#8 ++ 0#5 ++ 0#1 ++ 0#1 ++ BitVec.ofBool valid := by
    simp only [BitVec.and_append, BitVec.and_allOnes, BitVec.and_zero]
  exact hfields

/-- Settles O23: of the fields of `STATUS`, the acknowledgement writes the error fields. -/
theorem clearStatusClearsErrors : Obligations.ClearStatusClearsErrors := by
  unfold Obligations.ClearStatusClearsErrors
  intro s
  refine ⟨s.acknowledge, rfl, rfl, ?_⟩
  rw [s.statusWord_eq_statusFields, statusFields_and_mask]
  exact s.acknowledge.statusWord_eq_statusFields

/-! ## The commands without the descriptor precondition (40_control_and_descriptor.md R110) -/

/-- Settles O18: none of these commands has the latch among its operands. -/
theorem latchFreeCommandsIgnoreTheLatch : Obligations.LatchFreeCommandsIgnoreTheLatch := by
  unfold Obligations.LatchFreeCommandsIgnoreTheLatch
  intro i s t l v hfree hload h
  cases i with
  | nop | clearStatus | fmtLookup | pipe | bank => cases h; rfl
  | decode sel =>
    cases sel with
    | none => exact absurd (by decide) hfree
    | some cls => cases h; rfl
  | loadDesc => exact absurd rfl hload
  | rotation | bswidth | pixidx | resolve | fetch | fetchDecode => exact absurd (by decide) hfree

/-! ## LOAD_DESC: the checks in their order (40_control_and_descriptor.md R113) -/

/-- LOAD_DESC refuses the format: its bpp is not one of R116, or the block check of R121 fails. -/
def FormatRefused (c : Config) (f : Word) : Prop :=
  c.bitsPerPixel f ∉ legalBpp ∨ bcFormatOk c f = false

/-- LOAD_DESC refuses the dimensions: an empty surface, or a pitch below the width in elements
(40_control_and_descriptor.md R120). -/
abbrev DimensionsRefused (c : Config) (d : DescRegs) : Prop :=
  d.width.toNat = 0 ∨ d.height.toNat = 0 ∨
    d.pitch.toNat < elemExtent (c.isBlockCompressed d.format) d.width.toNat

section Checks

variable {d : DescRegs}

theorem checkDescriptor_of_formatRefused (hf : FormatRefused c d.format) :
    checkDescriptor c d = .error .unsupportedFormat := by
  unfold checkDescriptor
  rcases hf with hbpp | hblock
  · rw [if_pos hbpp]
  · rw [if_pos hblock, ite_self]

variable (hf : ¬ FormatRefused c d.format)
include hf

theorem checkDescriptor_of_reservedMode (hm : 16 ≤ d.tileMode.toNat) :
    checkDescriptor c d = .error .reservedTileMode := by
  obtain ⟨hbpp, hblock⟩ := not_or.mp hf
  rw [checkDescriptor, if_neg hbpp, if_neg hblock, if_pos hm]

theorem checkDescriptor_of_dimensionsRefused (hm : d.tileMode.toNat < 16) (hd : DimensionsRefused c d) :
    checkDescriptor c d = .error .descriptorInvalid := by
  obtain ⟨hbpp, hblock⟩ := not_or.mp hf
  rw [checkDescriptor, if_neg hbpp, if_neg hblock, if_neg (Nat.not_le.mpr hm), if_pos hd]

theorem checkDescriptor_of_passes {bsw : Nat} (hm : d.tileMode.toNat < 16) (hd : ¬ DimensionsRefused c d)
    (hb : bankSwappedWidth c d.tileMode.toNat (c.bitsPerPixel d.format) d.pitch.toNat = .ok bsw) :
    checkDescriptor c d = .ok (latchOf c d bsw) := by
  obtain ⟨hbpp, hblock⟩ := not_or.mp hf
  rw [checkDescriptor, if_neg hbpp, if_neg hblock, if_neg (Nat.not_le.mpr hm), if_neg hd, hb]

end Checks

/-! ## LOAD_DESC: the checks in terms of the registers and the set -/

theorem formatRefused_iff (hl : c.BcSetLegal) :
    FormatRefused c f ↔ c.bitsPerPixel f ∉ legalBpp ∨ (f, none) ∈ c.bcSet ∨
      ∃ k, (f, some k) ∈ c.bcSet ∧ c.bitsPerPixel f ≠ bcBits k := by
  simp only [FormatRefused, bcFormatOk, ← Config.bcEntry_eq_some_iff hl]
  rcases c.bcEntry f with _ | _ | k <;> simp

theorem not_formatRefused_of_not_mem (hb : c.bitsPerPixel f ∈ legalBpp) (h : ∀ k, (f, k) ∉ c.bcSet) :
    ¬ FormatRefused c f := by
  simp [FormatRefused, bcFormatOk, hb, Config.bcEntry_eq_none_iff.mpr h]

theorem not_formatRefused_of_mem {k : BcClass} (hl : c.BcSetLegal) (hb : c.bitsPerPixel f ∈ legalBpp)
    (h : (f, some k) ∈ c.bcSet) (hsize : c.bitsPerPixel f = bcBits k) : ¬ FormatRefused c f := by
  rw [hsize] at hb
  simp [FormatRefused, bcFormatOk, hsize, hb, (Config.bcEntry_eq_some_iff hl).mpr h]

theorem isBlockCompressed_eq_false (h : ∀ k, (f, k) ∉ c.bcSet) : c.isBlockCompressed f = false := by
  rw [Config.isBlockCompressed, Config.bcEntry_eq_none_iff.mpr h, Option.isSome_none]

theorem isBlockCompressed_eq_true (hl : c.BcSetLegal) (h : (f, cls) ∈ c.bcSet) :
    c.isBlockCompressed f = true := by
  rw [Config.isBlockCompressed, (Config.bcEntry_eq_some_iff hl).mpr h, Option.isSome_some]

theorem classOf_of_not_mem (h : ∀ k, (f, k) ∉ c.bcSet) : c.classOf f = none := by
  rw [Config.classOf, Config.bcEntry_eq_none_iff.mpr h, Option.join_none]

theorem classOf_of_mem (hl : c.BcSetLegal) (h : (f, cls) ∈ c.bcSet) : c.classOf f = cls := by
  rw [Config.classOf, (Config.bcEntry_eq_some_iff hl).mpr h, Option.join_some]

/-- The extent in elements is fixed by what it is for a code of the set and for any other. -/
theorem eq_elemExtent {n v : Nat} (hl : c.BcSetLegal)
    (hin : (∃ k, (f, k) ∈ c.bcSet) → n = (v + 3) / 4) (hout : (∀ k, (f, k) ∉ c.bcSet) → n = v) :
    n = elemExtent (c.isBlockCompressed f) v := by
  by_cases hmem : ∃ k, (f, k) ∈ c.bcSet
  · obtain ⟨k, hk⟩ := hmem
    rw [isBlockCompressed_eq_true hl hk, hin ⟨k, hk⟩]
    rfl
  · have hnot := not_exists.mp hmem
    rw [isBlockCompressed_eq_false hnot, hout hnot]
    rfl

/-! ## LOAD_DESC: what it latches and what it leaves (40_control_and_descriptor.md R122, R123) -/

/-- The latch of a descriptor, from the class of its code and the extent of its elements. -/
theorem latchOf_eq {d : DescRegs} (hclass : c.classOf d.format = cls) (bsw : Nat) :
    latchOf c d bsw =
      { width := d.width, height := d.height, pitch := d.pitch, tileMode := d.tileMode.extractLsb' 0 4,
        pipeSwizzle := d.swizzle.extractLsb' 8 1, bankSwizzle := d.swizzle.extractLsb' 9 2,
        format := d.format, dataSize := d.dataSize, bpp := c.bitsPerPixel d.format, bcClass := cls,
        tileClass := if d.tileMode.toNat ≤ 1 then .linear
          else if d.tileMode.toNat ≤ 3 then .micro else .macroTiled,
        elemW := elemExtent (c.isBlockCompressed d.format) d.width.toNat,
        elemH := elemExtent (c.isBlockCompressed d.format) d.height.toNat, bsw := bsw } := by
  have hmode : d.tileMode.setWidth 4 = d.tileMode.extractLsb' 0 4 :=
    BitVec.setWidth_eq_extractLsb' (by decide)
  have htile : tileClassOf d.tileMode.toNat = if d.tileMode.toNat ≤ 1 then .linear
      else if d.tileMode.toNat ≤ 3 then .micro else .macroTiled := by
    simp only [tileClassOf, ← Nat.lt_succ_iff]
  rw [latchOf, hmode, htile, hclass]
  rfl

/-- Settles O25: the two kinds of code that pass the format check differ in the class and the extents. -/
theorem loadDescCommits : Obligations.LoadDescCommits := by
  unfold Obligations.LoadDescCommits
  intro s cls bpp bsw eW eH hl hbpp hlegal hcode hmode hwidth hheight hpitch hbsw
  obtain ⟨-, -, hset⟩ := hl
  rw [← Config.bitsPerPixel_eq_getD] at hbpp
  subst hbpp
  obtain ⟨hclass, hformat, rfl, rfl⟩ :
      s.cfg.classOf s.desc.format = cls ∧ ¬ FormatRefused s.cfg s.desc.format ∧
        eW = elemExtent (s.cfg.isBlockCompressed s.desc.format) s.desc.width.toNat ∧
        eH = elemExtent (s.cfg.isBlockCompressed s.desc.format) s.desc.height.toNat := by
    obtain ⟨rfl, hno, rfl, rfl⟩ | ⟨k, rfl, hmem, hsize, rfl, rfl⟩ := hcode
    · rw [isBlockCompressed_eq_false hno]
      exact ⟨classOf_of_not_mem hno, not_formatRefused_of_not_mem hlegal hno, rfl, rfl⟩
    · rw [isBlockCompressed_eq_true hset hmem]
      exact ⟨classOf_of_mem hset hmem, not_formatRefused_of_mem hset hlegal hmem hsize, rfl, rfl⟩
  have hdims : ¬ DimensionsRefused s.cfg s.desc := by
    unfold DimensionsRefused
    omega
  have hcheck := checkDescriptor_of_passes hformat hmode hdims hbsw
  rw [latchOf_eq hclass] at hcheck
  exact execLoadDesc_of_ok hcheck

/-- With a legal bpp and legal parameters the bank-swapped width has no division by 0. -/
theorem bankSwappedWidth_ok_of_legal {bpp : Nat} (hl : c.Legal) (hb : bpp ∈ legalBpp) (m pitch : Nat) :
    ∃ w, bankSwappedWidth c m bpp pitch = .ok w := by
  obtain ⟨⟨hpipes, -⟩, -⟩ := hl
  have hpos : ∀ n ∈ legalBpp, 0 < n := by decide
  exact bankSwappedWidth_ok (by omega) (hpos bpp hb) m pitch

/-- Settles O26: the statement's two conditions are the refusals of the model's checks. -/
theorem loadDescRefusesInOrder : Obligations.LoadDescRefusesInOrder := by
  unfold Obligations.LoadDescRefusesInOrder
  intro s bpp eW badFormat badDims hl hbpp hin hout hformat hdims
  have ⟨_, _, hset⟩ := hl
  rw [← Config.bitsPerPixel_eq_getD] at hbpp
  subst hbpp
  obtain rfl := eq_elemExtent hset hin hout
  have hformat' : badFormat ↔ FormatRefused s.cfg s.desc.format :=
    hformat.trans (formatRefused_iff hset).symm
  have hdims' : badDims ↔ DimensionsRefused s.cfg s.desc := by
    rw [hdims, ← BitVec.toNat_inj, ← BitVec.toNat_inj]
    rfl
  rw [hformat', hdims']
  refine ⟨fun hf => ?_, fun hf hm => ?_, fun hf hm hd => ?_, fun hf hm hd => ?_⟩
  · exact execLoadDesc_of_error (checkDescriptor_of_formatRefused hf)
  · exact execLoadDesc_of_error (checkDescriptor_of_reservedMode hf hm)
  · exact execLoadDesc_of_error (checkDescriptor_of_dimensionsRefused hf hm hd)
  · have hlegal : s.cfg.bitsPerPixel s.desc.format ∈ legalBpp := not_not.mp fun hbad => hf (.inl hbad)
    obtain ⟨bsw, hbsw⟩ := bankSwappedWidth_ok_of_legal hl hlegal s.desc.tileMode.toNat s.desc.pitch.toNat
    exact ⟨latchOf s.cfg s.desc bsw, execLoadDesc_of_ok (checkDescriptor_of_passes hf hm hd hbsw)⟩

end Machine

end Sys2Proof
end

section
/-! The bank/pipe calculator (42_bank_pipe.md): the pipe and the bank of a coordinate as numbers, and what
PIPE, BANK, ROTATION and BSWIDTH return. -/

namespace Sys2Proof.Machine

variable {s : State} {c : Config}

/-! ## Pipe and bank as numbers (42_bank_pipe.md R140-R142)

The XOR of single bits is the parity of their sum, so each index is an expression in `+`, `/` and `%`. -/

theorem xor_and_one (a b : Nat) : (a ^^^ b) &&& 1 = (a + b) % 2 := by
  rw [Nat.and_one_is_mod, Nat.xor_mod_two_eq]

/-- A number that fits below a power of two is ORed to a multiple of it by adding. -/
theorem or_two_pow_mul {a k : Nat} (ha : a < 2 ^ k) (b : Nat) : a ||| 2 ^ k * b = a + 2 ^ k * b := by
  rw [Nat.or_comm, ← Nat.two_pow_add_eq_or_of_lt ha, Nat.add_comm]

theorem pipeIndex_eq (x y : Nat) : pipeIndex x y = (y / 8 + x / 8) % 2 := by
  rw [pipeIndex, xor_and_one, Nat.shiftRight_eq_div_pow, Nat.shiftRight_eq_div_pow]

theorem bankIndex4_eq (x y : Nat) :
    bankIndex4 2 x y = (y / 32 + x / 8) % 2 + 2 * ((y / 16 + x / 16) % 2) := by
  simp only [bankIndex4, xor_and_one, Nat.shiftRight_eq_div_pow]
  exact or_two_pow_mul (k := 1) (by omega) _

theorem bankIndex8_eq (x y : Nat) :
    bankIndex8 2 x y = (y / 64 + x / 8) % 2 + 2 * ((y / 64 + y / 32 + x / 16) % 2) +
      4 * ((y / 16 + x / 32) % 2) := by
  have hxor : ((y / 64 ^^^ y / 32) + x / 16) % 2 = (y / 64 + y / 32 + x / 16) % 2 := by
    rw [Nat.add_mod, Nat.xor_mod_two_eq, ← Nat.add_mod]
  simp only [bankIndex8, xor_and_one, Nat.shiftRight_eq_div_pow, Nat.reduceMul, Nat.reducePow, hxor]
  refine (congrArg (· ||| _) (or_two_pow_mul (k := 1) (by omega) _)).trans ?_
  exact or_two_pow_mul (k := 2) (by omega) _

theorem bankIndex_of_four (hl : c.Legal) (h : c.banks = 4) (x y : Nat) :
    bankIndex c x y = (y / 32 + x / 8) % 2 + 2 * ((y / 16 + x / 16) % 2) := by
  obtain ⟨⟨hpipes, -⟩, -⟩ := hl
  rw [bankIndex, if_neg (by omega), hpipes, bankIndex4_eq]

theorem bankIndex_of_eight (hl : c.Legal) (h : c.banks = 8) (x y : Nat) :
    bankIndex c x y = (y / 64 + x / 8) % 2 + 2 * ((y / 64 + y / 32 + x / 16) % 2) +
      4 * ((y / 16 + x / 32) % 2) := by
  obtain ⟨⟨hpipes, -⟩, -⟩ := hl
  rw [bankIndex, if_pos h, hpipes, bankIndex8_eq]

/-! ## PIPE and BANK (42_bank_pipe.md R143, R144) -/

theorem toNat_getLsbD (v : Word) (i : Nat) : (v.getLsbD i).toNat = v.toNat / 2 ^ i % 2 := by
  rw [← BitVec.testBit_toNat, Nat.toNat_testBit]

theorem toNat_xor (a b : Bool) : (a ^^ b).toNat = (a.toNat + b.toNat) % 2 := by
  cases a <;> cases b <;> rfl

/-- Settles O27: the pipe is the XOR of the two bits, which is 0 exactly when they agree. -/
theorem pipeCommandResult : Obligations.PipeCommandResult := by
  unfold Obligations.PipeCommandResult
  intro s
  have hbit : pipeIndex s.x s.y = (s.argX.getLsbD 3 ^^ s.argY.getLsbD 3).toNat := by
    rw [pipeIndex_eq, toNat_xor, toNat_getLsbD, toNat_getLsbD, State.x, State.y]
    omega
  have hword : low32 (pipeIndex s.x s.y) =
      if s.argX.getLsbD 3 = s.argY.getLsbD 3 then 0#32 else 1#32 := by
    rw [hbit]
    cases s.argX.getLsbD 3 <;> cases s.argY.getLsbD 3 <;> rfl
  rw [← hword]
  rfl

/-- BANK leaves the bank of the coordinate in `RES0`. -/
theorem exec_bank {b : Nat} (h : bankIndex s.cfg s.x s.y = b) :
    exec .bank s = .next { s with res0 := BitVec.ofNat 32 b } := by
  rw [← h]
  rfl

/-- Settles O28: each bit of the bank is the parity of the two coordinate bits it takes. -/
theorem bankCommandFourBanks : Obligations.BankCommandFourBanks := by
  unfold Obligations.BankCommandFourBanks
  intro s hl hbanks
  apply exec_bank
  rw [bankIndex_of_four hl hbanks]
  simp only [toNat_xor, toNat_getLsbD, State.x, State.y]
  omega

/-- Settles O29: as with 4 banks, the middle bit the parity of three coordinate bits. -/
theorem bankCommandEightBanks : Obligations.BankCommandEightBanks := by
  unfold Obligations.BankCommandEightBanks
  intro s hl hbanks
  apply exec_bank
  rw [bankIndex_of_eight hl hbanks]
  simp only [toNat_xor, toNat_getLsbD, State.x, State.y]
  omega

/-! ## ROTATION (42_bank_pipe.md R145, R146) -/

/-- The rotation of a legal mode with two pipes. -/
theorem surfaceRotation_of_legal (hl : c.Legal) {m : Nat} (hm : m < 16) :
    surfaceRotation c m =
      if m < 4 then 0 else if m < 12 then (if c.banks = 4 then 2 else 6) else 1 := by
  obtain ⟨⟨hpipes, hbanks, -⟩, -⟩ := hl
  have hmacro : c.pipes * ((c.banks >>> 1) - 1) = if c.banks = 4 then 2 else 6 := by
    obtain hb | hb := hbanks <;> rw [hpipes, hb] <;> rfl
  rw [surfaceRotation, hmacro, hpipes]
  by_cases hlow : m < 4
  · rw [if_pos hlow, if_neg (by omega), if_neg (by omega)]
  by_cases hmid : m < 12
  · rw [if_neg hlow, if_pos hmid, if_pos (by omega)]
  · rw [if_neg hlow, if_neg hmid, if_neg (by omega), if_pos (by omega), if_neg (by omega)]

theorem execRotation_of_loaded (hv : s.descValid = true) :
    execRotation s = .next (s.setRes0 (surfaceRotation s.cfg s.lat.mode)) := by
  rw [execRotation, if_pos hv]

theorem execRotation_of_notLoaded (hv : s.descValid = false) :
    execRotation s = .next (s.raise .descriptorNotLoaded) := by
  rw [execRotation, if_neg (by simp [hv])]

/-- Settles O30: a latched mode has 4 bits, so it is a legal one. -/
theorem rotationCommandResult : Obligations.RotationCommandResult := by
  unfold Obligations.RotationCommandResult
  intro s hl
  refine ⟨fun hv => ?_, fun hv => execRotation_of_notLoaded hv⟩
  have hword : low32 (surfaceRotation s.cfg s.lat.mode) =
      if s.lat.tileMode.toNat < 4 then 0#32
        else if s.lat.tileMode.toNat < 12 then (if s.cfg.banks = 4 then 2#32 else 6#32) else 1#32 := by
    rw [Latch.mode, surfaceRotation_of_legal hl s.lat.tileMode.isLt]
    simp only [apply_ite low32]
  rw [← hword]
  exact execRotation_of_loaded hv

/-! ## BSWIDTH (42_bank_pipe.md R147-R149) -/

theorem isBankSwapped_iff {m : Nat} : isBankSwapped m = true ↔ m ∈ [8, 9, 10, 11, 14, 15] :=
  decide_eq_true_iff

theorem isBankSwapped_eq_false_iff {m : Nat} :
    isBankSwapped m = false ↔ m ∉ [8, 9, 10, 11, 14, 15] :=
  decide_eq_false_iff_not

theorem bankSwappedWidth_of_not_swapped {m : Nat} (h : isBankSwapped m = false) (bpp pitch : Nat) :
    bankSwappedWidth c m bpp pitch = .ok 0 :=
  if_neg (by simp [h])

theorem bankSwappedWidth_of_swapped {m bpp w : Nat} (h : isBankSwapped m = true)
    (hw : unhalvedSwapWidth c m bpp = .ok w) (pitch : Nat) :
    bankSwappedWidth c m bpp pitch = .ok (halveBelow (2 * pitch) w w) := by
  rw [bankSwappedWidth, if_pos h, hw]

theorem execBswidth_of_loaded (hv : s.descValid = true) :
    execBswidth s = .next (s.setRes0 s.lat.bsw) := by
  rw [execBswidth, if_pos hv]

theorem execBswidth_of_notLoaded (hv : s.descValid = false) :
    execBswidth s = .next (s.raise .descriptorNotLoaded) := by
  rw [execBswidth, if_neg (by simp [hv])]

/-- Settles O31: the width BSWIDTH returns is the one LOAD_DESC calculated from the latch. -/
theorem bswidthCommandResult : Obligations.BswidthCommandResult := by
  unfold Obligations.BswidthCommandResult
  intro s hi
  refine ⟨fun hv => ⟨s.lat.bsw, ?_, execBswidth_of_loaded hv, fun hm => ?_⟩,
    fun hv => execBswidth_of_notLoaded hv⟩
  · exact (hi.latch_checked hv).bsw_eq
  · have hzero := bankSwappedWidth_of_not_swapped (c := s.cfg) (isBankSwapped_eq_false_iff.mpr hm)
      s.lat.bpp s.lat.pitch.toNat
    exact Except.ok.inj ((hi.latch_checked hv).bsw_eq.symm.trans hzero)

/-- The halving loop halves some number of times, and each time because its limit was reached. -/
theorem halveBelow_eq_div (limit fuel w : Nat) :
    ∃ k, halveBelow limit fuel w = w / 2 ^ k ∧ ∀ j, j < k → limit ≤ w / 2 ^ j := by
  induction fuel generalizing w with
  | zero => exact ⟨0, (Nat.div_one w).symm, by simp⟩
  | succ fuel ih =>
    by_cases hlim : limit ≤ w
    · obtain ⟨k, heq, hreached⟩ := ih (w >>> 1)
      have hhalf : ∀ j, (w >>> 1) / 2 ^ j = w / 2 ^ (j + 1) := fun j => by
        rw [Nat.shiftRight_eq_div_pow, Nat.div_div_eq_div_mul, ← pow_add, Nat.add_comm 1 j]
      refine ⟨k + 1, ?_, fun j hj => ?_⟩
      · rw [halveBelow, if_pos hlim, heq, hhalf]
      · cases j with
        | zero => simpa using hlim
        | succ j => exact hhalf j ▸ hreached j (by omega)
    · exact ⟨0, by rw [halveBelow, if_neg hlim, pow_zero, Nat.div_one], by simp⟩

/-- A number halved only while it is 2 or more stays positive. -/
theorem one_le_div_two_pow {w k : Nat} (hw : 1 ≤ w) (h : ∀ j, j < k → 2 ≤ w / 2 ^ j) :
    1 ≤ w / 2 ^ k := by
  cases k with
  | zero => simpa using hw
  | succ k =>
    have hlast := h k (by omega)
    rw [pow_succ, ← Nat.div_div_eq_div_mul]
    omega

/-- The table of R149, for a legal bpp. -/
theorem unhalvedSwapWidth_default {m bpp unhalved : Nat} (hbpp : bpp ∈ [8, 16, 32, 64, 128])
    (h : (m ∈ [8, 9, 14] ∧ unhalved = 4096 / bpp) ∨ (m ∈ [10, 11, 15] ∧ unhalved = 2048 / bpp)) :
    isBankSwapped m = true ∧ unhalvedSwapWidth Config.default m bpp = .ok unhalved ∧
      1 ≤ unhalved := by
  have hwide : ∀ m ∈ [8, 9, 14], ∀ bpp ∈ [8, 16, 32, 64, 128], isBankSwapped m = true ∧
      unhalvedSwapWidth Config.default m bpp = .ok (4096 / bpp) ∧ 1 ≤ 4096 / bpp := by decide
  have hnarrow : ∀ m ∈ [10, 11, 15], ∀ bpp ∈ [8, 16, 32, 64, 128], isBankSwapped m = true ∧
      unhalvedSwapWidth Config.default m bpp = .ok (2048 / bpp) ∧ 1 ≤ 2048 / bpp := by decide
  obtain ⟨hm, rfl⟩ | ⟨hm, rfl⟩ := h
  · exact hwide m hm bpp hbpp
  · exact hnarrow m hm bpp hbpp

/-- Settles O32: the loop runs from the table's width, and `w` rounds bring it below its limit. -/
theorem defaultSwapWidthTable : Obligations.DefaultSwapWidthTable := by
  unfold Obligations.DefaultSwapWidthTable
  intro m bpp pitch unhalved hbpp hpitch htable
  obtain ⟨hswapped, hunhalved, hpos⟩ := unhalvedSwapWidth_default hbpp htable
  obtain ⟨k, heq, hreached⟩ := halveBelow_eq_div (2 * pitch) unhalved unhalved
  have hlt : halveBelow (2 * pitch) unhalved unhalved < 2 * pitch := halveBelow_lt (by omega) le_rfl
  refine ⟨_, k, bankSwappedWidth_of_swapped hswapped hunhalved pitch, heq, hlt, hreached, ?_⟩
  rw [heq]
  exact one_le_div_two_pow hpos fun j hj => le_trans (by omega) (hreached j hj)

end Sys2Proof.Machine
end

section
/-! The macro-tiled address (43_address_resolver.md R174, R179-R185) in closed form: each step of the resolver
as an expression in `+`, `*`, `/` and `%`, for every legal configuration, and RESOLVE on a macro-tiled surface. -/

namespace Sys2Proof.Machine

variable {s : State} {c : Config} {l : Latch} {x y : Nat}

/-! ## The derived bit counts (00_scope.md R7) -/

theorem pipes_eq_two_pow (hl : c.Legal) : c.pipes = 2 ^ c.numPipeBits := by
  obtain ⟨⟨hpipes, -⟩, -⟩ := hl
  rw [Config.numPipeBits, hpipes]
  rfl

theorem banks_eq_two_pow (hl : c.Legal) : c.banks = 2 ^ c.numBankBits := by
  obtain ⟨⟨-, hbanks, -⟩, -⟩ := hl
  rw [Config.numBankBits]
  obtain h | h := hbanks <;> rw [h] <;> rfl

theorem groupSize_eq_two_pow (hl : c.Legal) : c.groupSize = 2 ^ c.numGroupBits := by
  obtain ⟨⟨-, -, hgroup, -⟩, -⟩ := hl
  exact hgroup

theorem pipes_mul_banks_eq_two_pow (hl : c.Legal) : c.pipes * c.banks = 2 ^ c.numSwizzleBits := by
  rw [Config.numSwizzleBits, pow_add, ← pipes_eq_two_pow hl, ← banks_eq_two_pow hl, Nat.mul_comm]

theorem groupSize_pos (hl : c.Legal) : 0 < c.groupSize := by
  rw [groupSize_eq_two_pow hl]
  positivity

theorem pipes_mul_banks_pos (hl : c.Legal) : 0 < c.pipes * c.banks := by
  rw [pipes_mul_banks_eq_two_pow hl]
  positivity

/-! ## The swizzle network (43_address_resolver.md R180) -/

theorem pipeIndex_lt (hl : c.Legal) (x y : Nat) : pipeIndex x y < c.pipes := by
  obtain ⟨⟨hpipes, -⟩, -⟩ := hl
  rw [pipeIndex_eq, hpipes]
  omega

theorem bankIndex_lt (hl : c.Legal) (x y : Nat) : bankIndex c x y < c.banks := by
  have ⟨⟨_, hbanks, _⟩, _⟩ := hl
  obtain h | h := hbanks
  · rw [bankIndex_of_four hl h]
    omega
  · rw [bankIndex_of_eight hl h]
    omega

theorem pipeSwizzle_lt (hl : c.Legal) (l : Latch) : l.pipeSwizzle.toNat < c.pipes := by
  obtain ⟨⟨hpipes, -⟩, -⟩ := hl
  have hbit := l.pipeSwizzle.isLt
  omega

theorem bankSwizzle_lt (hl : c.Legal) (l : Latch) : l.bankSwizzle.toNat < c.banks := by
  obtain ⟨⟨-, hbanks, -⟩, -⟩ := hl
  have hbits := l.bankSwizzle.isLt
  omega

theorem xor_lt_pipes (hl : c.Legal) {a b : Nat} (ha : a < c.pipes) (hb : b < c.pipes) :
    a ^^^ b < c.pipes := by
  rw [pipes_eq_two_pow hl] at *
  exact Nat.xor_lt_two_pow ha hb

theorem xor_lt_banks (hl : c.Legal) {a b : Nat} (ha : a < c.banks) (hb : b < c.banks) :
    a ^^^ b < c.banks := by
  rw [banks_eq_two_pow hl] at *
  exact Nat.xor_lt_two_pow ha hb

/-- XOR acts on the digits below and above a power of two apart. -/
theorem xor_add_two_pow_mul {k p q : Nat} (hp : p < 2 ^ k) (hq : q < 2 ^ k) (a b : Nat) :
    (p + 2 ^ k * a) ^^^ (q + 2 ^ k * b) = (p ^^^ q) + 2 ^ k * (a ^^^ b) := by
  have hpos : 0 < 2 ^ k := by positivity
  have hmod : ((p + 2 ^ k * a) ^^^ (q + 2 ^ k * b)) % 2 ^ k = p ^^^ q := by
    rw [Nat.xor_mod_two_pow, Nat.add_mul_mod_self_left, Nat.add_mul_mod_self_left,
      Nat.mod_eq_of_lt hp, Nat.mod_eq_of_lt hq]
  have hdiv : ((p + 2 ^ k * a) ^^^ (q + 2 ^ k * b)) / 2 ^ k = a ^^^ b := by
    rw [Nat.xor_div_two_pow, Nat.add_mul_div_left _ _ hpos, Nat.add_mul_div_left _ _ hpos,
      Nat.div_eq_of_lt hp, Nat.div_eq_of_lt hq, Nat.zero_add, Nat.zero_add]
  rw [← Nat.mod_add_div ((p + 2 ^ k * a) ^^^ (q + 2 ^ k * b)) (2 ^ k), hmod, hdiv]

/-- The pipe of an element, swizzled. -/
def swizzledPipe (l : Latch) (x y : Nat) : Nat := pipeIndex x y ^^^ l.pipeSwizzle.toNat

/-- The bank of an element, swizzled. -/
def swizzledBank (c : Config) (l : Latch) (x y : Nat) : Nat :=
  bankIndex c x y ^^^ l.bankSwizzle.toNat

theorem swizzledPipe_lt (hl : c.Legal) (l : Latch) (x y : Nat) : swizzledPipe l x y < c.pipes :=
  xor_lt_pipes hl (pipeIndex_lt hl x y) (pipeSwizzle_lt hl l)

theorem swizzledBank_lt (hl : c.Legal) (l : Latch) (x y : Nat) : swizzledBank c l x y < c.banks :=
  xor_lt_banks hl (bankIndex_lt hl x y) (bankSwizzle_lt hl l)

/-- The swizzle reaches the pipe and the bank apart. -/
theorem bankPipe_xor_eq (hl : c.Legal) (l : Latch) (x y : Nat) :
    (pipeIndex x y + c.pipes * bankIndex c x y) ^^^
        (l.pipeSwizzle.toNat + c.pipes * l.bankSwizzle.toNat) =
      swizzledPipe l x y + c.pipes * swizzledBank c l x y := by
  have hp := pipeIndex_lt hl x y
  have hq := pipeSwizzle_lt hl l
  rw [pipes_eq_two_pow hl] at *
  exact xor_add_two_pow_mul hp hq _ _

/-- So the reduction modulo `PIPES*BANKS` changes nothing. -/
theorem bankPipe_xor_lt (hl : c.Legal) (l : Latch) (x y : Nat) :
    (pipeIndex x y + c.pipes * bankIndex c x y) ^^^
      (l.pipeSwizzle.toNat + c.pipes * l.bankSwizzle.toNat) < c.pipes * c.banks := by
  have hpipe := swizzledPipe_lt hl l x y
  have hbank := swizzledBank_lt hl l x y
  rw [bankPipe_xor_eq hl]
  nlinarith

theorem swizzledPipeBank_eq (hl : c.Legal) (l : Latch) (x y : Nat) :
    swizzledPipeBank c l x y = (swizzledPipe l x y, swizzledBank c l x y) := by
  have hpipe := swizzledPipe_lt hl l x y
  simp only [swizzledPipeBank]
  rw [Nat.mod_eq_of_lt (bankPipe_xor_lt hl l x y), bankPipe_xor_eq hl,
    Nat.add_mul_mod_self_left, Nat.mod_eq_of_lt hpipe, Nat.add_mul_div_left _ _ (by omega),
    Nat.div_eq_of_lt hpipe, Nat.zero_add]

/-! ## The bank swap (43_address_resolver.md R183) -/

/-- What the bank swap XORs to the bank of a column: the entry of `BANK_SWAP_ORDER`, and nothing in a mode
that is not bank-swapped. -/
def swapEntry (c : Config) (l : Latch) (x : Nat) : Nat :=
  if isBankSwapped l.mode then
    bankSwapOrder.getD
      ((macroTilePitch c l.mode * (x / macroTilePitch c l.mode) / l.bsw) % c.banks) 0
  else 0

theorem swapEntry_lt (hl : c.Legal) (l : Latch) (x : Nat) : swapEntry c l x < c.banks := by
  have hrom4 : ∀ i < 4, bankSwapOrder.getD i 0 < 4 := by decide
  have hrom8 : ∀ i < 8, bankSwapOrder.getD i 0 < 8 := by decide
  obtain ⟨⟨-, hbanks, -⟩, -⟩ := hl
  unfold swapEntry
  split
  · obtain h | h := hbanks
    · rw [h]
      exact hrom4 _ (Nat.mod_lt _ (by decide))
    · rw [h]
      exact hrom8 _ (Nat.mod_lt _ (by decide))
  · omega

/-- The bank swap fails in one way only, a width of 0 in a bank-swapped mode. -/
theorem bankSwap_eq_ok_iff (hl : c.Legal) {bank b : Nat} :
    bankSwap c l bank x = .ok b ↔
      (isBankSwapped l.mode = true → l.bsw ≠ 0) ∧ b = bank ^^^ swapEntry c l x := by
  have hmask : ∀ i, i &&& (c.banks - 1) = i % c.banks := fun i => by
    rw [banks_eq_two_pow hl, Nat.and_two_pow_sub_one_eq_mod]
  unfold bankSwap swapEntry
  cases hm : isBankSwapped l.mode with
  | false => simp [eq_comm]
  | true =>
    by_cases hbsw : l.bsw = 0
    · simp [hbsw]
    · simp [hbsw, hmask, eq_comm]

/-! ## The assembly (43_address_resolver.md R185) -/

/-- The address that has `total` split at the group, with the pipe and the bank between the parts. -/
def interleave (c : Config) (total pipe bank : Nat) : Nat :=
  (total / c.groupSize) * (c.groupSize * (c.pipes * c.banks)) + bank * (c.pipes * c.groupSize) +
    pipe * c.groupSize + total % c.groupSize

theorem shiftLeft_or_eq {b k : Nat} (hb : b < 2 ^ k) (a : Nat) : a <<< k ||| b = a * 2 ^ k + b := by
  rw [← Nat.shiftLeft_add_eq_or_of_lt hb, Nat.shiftLeft_eq]

/-- The four parts of an address lie in disjoint bits, so the OR is their sum. -/
theorem assemble_eq_interleave (hl : c.Legal) {elem mto pipe bank : Nat} (hp : pipe < c.pipes)
    (hb : bank < c.banks) :
    assemble c elem mto pipe bank = interleave c (elem + mto / (c.pipes * c.banks)) pipe bank := by
  rw [interleave]
  simp only [assemble]
  rw [Nat.shiftRight_eq_div_pow, ← pipes_mul_banks_eq_two_pow hl]
  generalize elem + mto / (c.pipes * c.banks) = total
  have hlow : total &&& (2 ^ c.numGroupBits - 1) = total % 2 ^ c.numGroupBits :=
    Nat.and_two_pow_sub_one_eq_mod ..
  have hhigh : total - total % 2 ^ c.numGroupBits =
      (total / 2 ^ c.numGroupBits) <<< c.numGroupBits := by
    have hsplit := Nat.mod_add_div' total (2 ^ c.numGroupBits)
    rw [Nat.shiftLeft_eq]
    omega
  rw [pipes_eq_two_pow hl] at hp
  rw [banks_eq_two_pow hl] at hb
  calc _ = ((((total / 2 ^ c.numGroupBits) <<< c.numBankBits ||| bank) <<< c.numPipeBits ||| pipe)
            <<< c.numGroupBits) ||| total % 2 ^ c.numGroupBits := by
        rw [hlow, hhigh, Config.numSwizzleBits]
        simp only [Nat.shiftLeft_or_distrib, ← Nat.shiftLeft_add]
        congr 4
        omega
    _ = (((total / 2 ^ c.numGroupBits * 2 ^ c.numBankBits + bank) * 2 ^ c.numPipeBits + pipe)
            * 2 ^ c.numGroupBits) + total % 2 ^ c.numGroupBits := by
        rw [shiftLeft_or_eq hb, shiftLeft_or_eq hp, shiftLeft_or_eq (Nat.mod_lt _ (by positivity))]
    _ = _ := by
        rw [pipes_eq_two_pow hl, banks_eq_two_pow hl, groupSize_eq_two_pow hl]
        ring

/-! ## The macro-tile (43_address_resolver.md R181, R182) -/

theorem aspect_mem (m : Nat) : aspect m = 1 ∨ aspect m = 2 ∨ aspect m = 4 := by
  unfold aspect
  split
  · exact .inr (.inl rfl)
  · split
    · exact .inr (.inr rfl)
    · exact .inl rfl

theorem thickness_pos (m : Nat) : 0 < thickness m := by
  unfold thickness
  split
  · decide
  · split <;> decide

/-- A macro-tile has 64 elements for each pipe and bank, whatever its aspect. -/
theorem macroTile_elements (hl : c.Legal) (m : Nat) :
    macroTileHeight c m * macroTilePitch c m = 64 * (c.pipes * c.banks) := by
  obtain ⟨⟨hpipes, hbanks, -⟩, -⟩ := hl
  rw [macroTileHeight, macroTilePitch, hpipes]
  obtain hb | hb := hbanks <;> obtain ha | ha | ha := aspect_mem m <;> rw [hb, ha]

/-- The number of an element's macro-tile, counted along the rows of the surface. -/
def macroTileIndex (c : Config) (l : Latch) (x y : Nat) : Nat :=
  x / macroTilePitch c l.mode +
    l.pitch.toNat / macroTilePitch c l.mode * (y / macroTileHeight c l.mode)

theorem ceilDiv_eight_mul (k : Nat) : ceilDiv (8 * k) 8 = k := by
  unfold ceilDiv
  omega

theorem microTileBytes_eq (th bpp : Nat) : microTileBytes th bpp = 8 * th * bpp := by
  rw [microTileBytes, show 64 * th * bpp = 8 * (8 * th * bpp) by ring, ceilDiv_eight_mul]

/-- One pipe's and bank's share of the macro-tiles before an element: a micro-tile for each. -/
theorem macroTileOffset_div (hl : c.Legal) (l : Latch) (x y : Nat) :
    macroTileOffset c l x y / (c.pipes * c.banks) =
      8 * thickness l.mode * l.bpp * macroTileIndex c l x y := by
  have hbytes : thickness l.mode * l.bpp * macroTileHeight c l.mode * macroTilePitch c l.mode =
      8 * (8 * thickness l.mode * l.bpp * (c.pipes * c.banks)) := by
    rw [Nat.mul_assoc _ (macroTileHeight c l.mode), macroTile_elements hl]
    ring
  have hoffset : macroTileOffset c l x y = c.pipes * c.banks *
      (8 * thickness l.mode * l.bpp * macroTileIndex c l x y) := by
    simp only [macroTileOffset]
    rw [hbytes, ceilDiv_eight_mul, macroTileIndex]
    ring
  rw [hoffset, Nat.mul_div_cancel_left _ (pipes_mul_banks_pos hl)]

/-! ## The address (43_address_resolver.md R174) -/

theorem Latch.Checked.bpp_eq_span (h : Latch.Checked c l) : l.bpp = 8 * l.span := by
  have hwhole : ∀ b ∈ [8, 16, 32, 64, 128], b = 8 * (b / 8) := by decide
  exact hwhole l.bpp h.bpp_legal

theorem elemOffset_eq (h : Latch.Checked c l) (x y : Nat) :
    elemOffset c l x y = l.span * pixelIndex c x y l.bpp l.mode := by
  have hbytes : l.bpp * pixelIndex c x y l.bpp l.mode =
      8 * (l.span * pixelIndex c x y l.bpp l.mode) := by
    rw [← Nat.mul_assoc, ← h.bpp_eq_span]
  rw [elemOffset, hbytes, Nat.shiftRight_eq_div_pow]
  exact Nat.mul_div_cancel_left _ (by decide)

/-- The offset of an element in the memory of its own pipe and bank. -/
def bankOffset (c : Config) (l : Latch) (x y : Nat) : Nat :=
  l.span * pixelIndex c x y l.bpp l.mode + 8 * thickness l.mode * l.bpp * macroTileIndex c l x y

/-- The bank of an element, swizzled (R180) and swapped (R183). -/
def swappedBank (c : Config) (l : Latch) (x y : Nat) : Nat :=
  swizzledBank c l x y ^^^ swapEntry c l x

theorem swappedBank_lt (hl : c.Legal) (l : Latch) (x y : Nat) : swappedBank c l x y < c.banks :=
  xor_lt_banks hl (swizzledBank_lt hl l x y) (swapEntry_lt hl l x)

/-- When a macro-tiled element has an address, and which (R174). -/
theorem macroAddr_eq_ok_iff (hl : c.Legal) (h : Latch.Checked c l) {a : Nat} :
    macroAddr c l x y = .ok a ↔ splitRefused c l = false ∧
      (isBankSwapped l.mode = true → l.bsw ≠ 0) ∧
      a = interleave c (bankOffset c l x y) (swizzledPipe l x y) (swappedBank c l x y) := by
  have hassemble : assemble c (elemOffset c l x y) (macroTileOffset c l x y) (swizzledPipe l x y)
      (swappedBank c l x y) =
        interleave c (bankOffset c l x y) (swizzledPipe l x y) (swappedBank c l x y) := by
    rw [assemble_eq_interleave hl (swizzledPipe_lt hl l x y) (swappedBank_lt hl l x y),
      elemOffset_eq h, macroTileOffset_div hl, bankOffset]
  have hpb := swizzledPipeBank_eq hl l x y
  constructor
  · intro ha
    obtain ⟨hsplit, bank, hbank, rfl⟩ := macroAddr_ok ha
    rw [hpb] at hbank
    obtain ⟨hbsw, rfl⟩ := (bankSwap_eq_ok_iff hl).mp hbank
    refine ⟨hsplit, hbsw, ?_⟩
    rw [hpb]
    exact hassemble
  · rintro ⟨hsplit, hbsw, rfl⟩
    have hbank : bankSwap c l (swizzledBank c l x y) x = .ok (swappedBank c l x y) :=
      (bankSwap_eq_ok_iff hl).mpr ⟨hbsw, rfl⟩
    simp only [macroAddr, hpb, hbank, hsplit, Bool.false_eq_true, if_false]
    rw [hassemble]

theorem resolveAddr_of_macro (h : Latch.Checked c l) (hm : 4 ≤ l.mode) (x y : Nat) :
    resolveAddr c l x y = macroAddr c l x y := by
  have hclass : l.tileClass = .macroTiled := by
    rw [h.tileClass_eq, tileClassOf, if_neg (by omega), if_neg (by omega)]
  rw [resolveAddr, hclass]

/-! ## RESOLVE (43_address_resolver.md R170) -/

theorem splitRefused_eq_false_iff :
    splitRefused c l = false ↔
      c.slicePolicy = .noSlice ∨ 8 * thickness l.mode * l.bpp ≤ c.splitSize := by
  rw [splitRefused, microTileBytes_eq]
  cases c.slicePolicy <;> simp

theorem resolveElement_of_inside (hx : s.x < s.lat.elemW) (hy : s.y < s.lat.elemH) :
    resolveElement s = resolveAddr s.cfg s.lat s.x s.y := by
  rw [resolveElement, if_pos (by simp [coordInRange, hx, hy])]

/-- RESOLVE of an element of the surface that has an address. -/
theorem exec_resolve_of_resolveAddr {a : Nat} (hv : s.descValid = true) (hx : s.x < s.lat.elemW)
    (hy : s.y < s.lat.elemH) (h : resolveAddr s.cfg s.lat s.x s.y = .ok a) :
    exec .resolve s = .next (if a + s.lat.bpp / 8 ≤ s.lat.dataSize.toNat
      then { s with res0 := BitVec.ofNat 32 a }
      else { s with res0 := BitVec.ofNat 32 a, oor := true, errCode := 0x06#8 }) := by
  have hexec : exec .resolve s = _ :=
    execResolve_of_ok hv ((resolveElement_of_inside hx hy).trans h)
  rw [hexec]
  by_cases hin : a + s.lat.bpp / 8 ≤ s.lat.dataSize.toNat
  · have ho : addressOutOfRange s.lat a = false := decide_eq_false (Nat.not_lt.mpr hin)
    rw [ho, if_pos hin]
    rfl
  · have ho : addressOutOfRange s.lat a = true := decide_eq_true (Nat.not_le.mp hin)
    rw [ho, if_neg hin]
    rfl

/-- A macro-tiled mode is thick or has thickness 1 (10_state.md R48). -/
theorem thickness_of_macro {m : Nat} (h4 : 4 ≤ m) (h16 : m < 16) :
    thickness m = if m ∈ [7, 11, 13, 15] then 4 else 1 := by
  have hthin : ¬ (m = 16 ∨ m = 17) := by omega
  have hmicro : m ≠ 3 := by omega
  simp [thickness, isThickMacro, hmicro, hthin]

theorem aspect_eq (m : Nat) : aspect m = if m ∈ [5, 9] then 2 else if m ∈ [6, 10] then 4 else 1 := by
  simp [aspect]

/-- The two zeros after the eight entries of the ROM are never read (10_state.md R49). -/
theorem swapEntry_eq (hl : c.Legal) (l : Latch) (x : Nat) :
    swapEntry c l x = if l.mode ∈ [8, 9, 10, 11, 14, 15] then
      [0, 1, 3, 2, 6, 7, 5, 4].getD
        ((macroTilePitch c l.mode * (x / macroTilePitch c l.mode) / l.bsw) % c.banks) 0 else 0 := by
  have hrom : ∀ i < 8, bankSwapOrder.getD i 0 = [0, 1, 3, 2, 6, 7, 5, 4].getD i 0 := by decide
  obtain ⟨⟨-, hbanks, -⟩, -⟩ := hl
  simp only [swapEntry, isBankSwapped_iff]
  rw [hrom _ (lt_of_lt_of_le (Nat.mod_lt _ (by omega)) (by omega))]

/-- Settles O42: the closed form of the address, with the statement's names for its parts. -/
theorem resolveMacroTiledAddress : Obligations.ResolveMacroTiledAddress := by
  unfold Obligations.ResolveMacroTiledAddress
  intro s x y m th asp mtp mth total bank a hi hv hx hy hxin hyin hm hmacro hth hasp hmtp hmth hsplit
    hbsw htotal hbank ha
  have hl := hi.cfg_legal
  have hc := hi.latch_checked hv
  have ⟨⟨hpipes, _⟩, _⟩ := hl
  obtain rfl : m = s.lat.mode := hm
  obtain rfl : th = thickness s.lat.mode :=
    hth.trans (thickness_of_macro hmacro s.lat.tileMode.isLt).symm
  obtain rfl : asp = aspect s.lat.mode := hasp.trans (aspect_eq _).symm
  obtain rfl : mtp = macroTilePitch s.cfg s.lat.mode := hmtp
  obtain rfl : mth = macroTileHeight s.cfg s.lat.mode := by rw [hmth, macroTileHeight, hpipes]
  obtain rfl : total = bankOffset s.cfg s.lat x y := htotal
  obtain rfl : bank = swappedBank s.cfg s.lat x y := by
    rw [hbank, swappedBank, swizzledBank, swapEntry_eq hl]
  obtain rfl : a = interleave s.cfg (bankOffset s.cfg s.lat x y) (swizzledPipe s.lat x y)
      (swappedBank s.cfg s.lat x y) := by rw [ha, interleave, hpipes, swizzledPipe]
  subst hx hy
  refine exec_resolve_of_resolveAddr hv hxin hyin ((resolveAddr_of_macro hc hmacro _ _).trans ?_)
  exact (macroAddr_eq_ok_iff hl hc).mpr ⟨splitRefused_eq_false_iff.mpr hsplit,
    fun h => hbsw (isBankSwapped_iff.mp h), rfl⟩

end Sys2Proof.Machine
end

section
/-! One-to-one addressing (43_address_resolver.md R189): the pixel index tells the positions of a micro-tile
apart (R177), the pipe and the bank tell the micro-tiles of a macro-tile apart (R140-R142), so no two elements
of a macro-tiled surface share a byte. -/

namespace Sys2Proof.Machine

variable {c : Config} {l : Latch} {r : PixelRow} {x y x' y' : Nat}

/-! ## The pixel index (43_address_resolver.md R175, R177) -/

theorem bitAt_eq (v k : Nat) : bitAt v k = v / 2 ^ k % 2 := by
  rw [bitAt, Nat.shiftRight_eq_div_pow, Nat.and_one_is_mod]

theorem coordBitValue_lt (x y : Nat) (b : CoordBit) : coordBitValue x y b < 2 := by
  cases b <;> simp only [coordBitValue, bitAt_eq] <;> exact Nat.mod_lt _ (by decide)

/-- The depth is 0, so the index is the row's six bits. -/
theorem pixelIndex_eq_rowIndex (c : Config) (x y bpp m : Nat) :
    pixelIndex c x y bpp m = rowIndex (pixelRowFor c.pixelBits bpp) x y := by
  simp [pixelIndex, depthZ, bitAt]

theorem rowIndex_lt (r : PixelRow) (x y : Nat) : rowIndex r x y < 64 := by
  have hbit := coordBitValue_lt x y
  have h0 := hbit r.s0
  have h1 := hbit r.s1
  have h2 := hbit r.s2
  have h3 := hbit r.s3
  have h4 := hbit r.s4
  have h5 := hbit r.s5
  unfold rowIndex
  omega

/-- The index has a binary digit for each entry of its row. -/
theorem coordBitValue_eq_of_rowIndex (h : rowIndex r x y = rowIndex r x' y') :
    ∀ b ∈ [r.s0, r.s1, r.s2, r.s3, r.s4, r.s5], coordBitValue x y b = coordBitValue x' y' b := by
  have hbit := coordBitValue_lt x y
  have hbit' := coordBitValue_lt x' y'
  have h0 := hbit r.s0
  have h1 := hbit r.s1
  have h2 := hbit r.s2
  have h3 := hbit r.s3
  have h4 := hbit r.s4
  have h0' := hbit' r.s0
  have h1' := hbit' r.s1
  have h2' := hbit' r.s2
  have h3' := hbit' r.s3
  have h4' := hbit' r.s4
  unfold rowIndex at h
  simp only [List.forall_mem_cons, List.not_mem_nil, false_imp_iff, implies_true, and_true]
  omega

/-- Six different entries of six coordinate bits are all of them. -/
theorem mem_row_of_isPermutation (h : r.IsPermutation) (b : CoordBit) :
    b ∈ [r.s0, r.s1, r.s2, r.s3, r.s4, r.s5] := by
  have hall : ∀ a : CoordBit, a ∈ [.x0, .x1, .x2, .y0, .y1, .y2] := fun a => by cases a <;> simp
  have hsub := List.subperm_of_subset h fun a _ => hall a
  exact (hsub.perm_of_length_le le_rfl).mem_iff.mpr (hall b)

/-- A permuted row tells the 64 positions of a micro-tile apart. -/
theorem mod_eight_eq_of_rowIndex (hr : r.IsPermutation) (h : rowIndex r x y = rowIndex r x' y') :
    x % 8 = x' % 8 ∧ y % 8 = y' % 8 := by
  have hbit b := coordBitValue_eq_of_rowIndex h b (mem_row_of_isPermutation hr b)
  have hx0 := hbit .x0
  have hx1 := hbit .x1
  have hx2 := hbit .x2
  have hy0 := hbit .y0
  have hy1 := hbit .y1
  have hy2 := hbit .y2
  simp only [coordBitValue, bitAt_eq] at hx0 hx1 hx2 hy0 hy1 hy2
  exact ⟨by omega, by omega⟩

theorem pixelRowFor_isPermutation {t : PixelBitTable} (h : t.AllPermutations) (bpp : Nat) :
    (pixelRowFor t bpp).IsPermutation := by
  obtain ⟨h8, h16, h32, h64, h128, hother⟩ := h
  unfold pixelRowFor
  split
  · exact h8
  split
  · exact h16
  split
  · exact h32
  split
  · exact h64
  split
  · exact h128
  · exact hother

theorem mod_eight_eq_of_pixelIndex (ht : c.pixelBits.AllPermutations) {bpp m : Nat}
    (h : pixelIndex c x y bpp m = pixelIndex c x' y' bpp m) : x % 8 = x' % 8 ∧ y % 8 = y' % 8 := by
  rw [pixelIndex_eq_rowIndex, pixelIndex_eq_rowIndex] at h
  exact mod_eight_eq_of_rowIndex (pixelRowFor_isPermutation ht bpp) h

/-! ## Pipe and bank within a macro-tile (42_bank_pipe.md R140-R142) -/

/-- Equal parities of two sums tie their summands: the one pair agrees when the other does. -/
theorem parity_iff {a b a' b' : Nat} (h : (a + b) % 2 = (a' + b') % 2) :
    a % 2 = a' % 2 ↔ b % 2 = b' % 2 := by
  omega

theorem two_bits_eq {a b a' b' : Nat} (h : a % 2 + 2 * (b % 2) = a' % 2 + 2 * (b' % 2)) :
    a % 2 = a' % 2 ∧ b % 2 = b' % 2 := by
  omega

theorem three_bits_eq {a b d a' b' d' : Nat}
    (h : a % 2 + 2 * (b % 2) + 4 * (d % 2) = a' % 2 + 2 * (b' % 2) + 4 * (d' % 2)) :
    a % 2 = a' % 2 ∧ b % 2 = b' % 2 ∧ d % 2 = d' % 2 := by
  omega

theorem eq_of_bits {v v' : Nat} (hlow : v % 8 = v' % 8) (h3 : v / 8 % 2 = v' / 8 % 2)
    (h4 : v / 16 % 2 = v' / 16 % 2) (h5 : v / 32 % 2 = v' / 32 % 2) (hhigh : v / 64 = v' / 64) :
    v = v' := by
  omega

/-- What lies above a bit is fixed by what lies above a lower one. -/
theorem div_eq_of_div_eq {v v' k : Nat} (h : v / k = v' / k) (n : Nat) :
    v / (k * n) = v' / (k * n) := by
  rw [← Nat.div_div_eq_div_mul, h, Nat.div_div_eq_div_mul]

theorem bit_eq_of_div_eq {v v' k : Nat} (h : v / k = v' / k) (n : Nat) :
    v / (k * n) % 2 = v' / (k * n) % 2 := by
  rw [div_eq_of_div_eq h]

section Positions

/-! Two coordinates that agree in their low three bits, above bit 5, and in pipe and bank. -/

variable (hx : x % 8 = x' % 8) (hy : y % 8 = y' % 8) (hxhigh : x / 64 = x' / 64)
  (hyhigh : y / 64 = y' / 64) (hpipe : pipeIndex x y = pipeIndex x' y')
  (hbank : bankIndex c x y = bankIndex c x' y')

include hx hy hxhigh hyhigh hpipe hbank

/-- With 4 banks they are the same when each bit of the bank has one of its two coordinate bits fixed. -/
theorem coordinates_eq_of_four (hl : c.Legal) (h : c.banks = 4) (hx5 : x / 32 % 2 = x' / 32 % 2)
    (h0 : y / 32 % 2 = y' / 32 % 2 ∨ x / 8 % 2 = x' / 8 % 2)
    (h1 : y / 16 % 2 = y' / 16 % 2 ∨ x / 16 % 2 = x' / 16 % 2) : x = x' ∧ y = y' := by
  rw [bankIndex_of_four hl h, bankIndex_of_four hl h] at hbank
  rw [pipeIndex_eq, pipeIndex_eq] at hpipe
  obtain ⟨hbit0, hbit1⟩ := two_bits_eq hbank
  have hy3 := parity_iff hpipe
  have hy5 := parity_iff hbit0
  have hy4 := parity_iff hbit1
  rw [hy5, or_self] at h0
  rw [hy4, or_self] at h1
  exact ⟨eq_of_bits hx h0 h1 hx5 hxhigh,
    eq_of_bits hy (hy3.mpr h0) (hy4.mpr h1) (hy5.mpr h0) hyhigh⟩

/-- The same with 8 banks, whose third bit takes bit 5 of `x`. -/
theorem coordinates_eq_of_eight (hl : c.Legal) (h : c.banks = 8)
    (h1 : y / 32 % 2 = y' / 32 % 2 ∨ x / 16 % 2 = x' / 16 % 2)
    (h2 : y / 16 % 2 = y' / 16 % 2 ∨ x / 32 % 2 = x' / 32 % 2) : x = x' ∧ y = y' := by
  rw [bankIndex_of_eight hl h, bankIndex_of_eight hl h] at hbank
  rw [pipeIndex_eq, pipeIndex_eq] at hpipe
  obtain ⟨hbit0, hbit1, hbit2⟩ := three_bits_eq hbank
  rw [hyhigh] at hbit0
  rw [hyhigh, Nat.add_assoc, Nat.add_assoc] at hbit1
  have hx3 := (parity_iff hbit0).mp rfl
  have hy3 := (parity_iff hpipe).mpr hx3
  have hy5 := parity_iff ((parity_iff hbit1).mp rfl)
  have hy4 := parity_iff hbit2
  rw [hy5, or_self] at h1
  rw [hy4, or_self] at h2
  exact ⟨eq_of_bits hx hx3 h1 h2 hxhigh, eq_of_bits hy hy3 (hy4.mpr h2) (hy5.mpr h1) hyhigh⟩

end Positions

theorem macroTile_shape_of_four (hl : c.Legal) (h : c.banks = 4) (m : Nat) :
    (macroTilePitch c m = 32 ∧ macroTileHeight c m = 16) ∨
      (macroTilePitch c m = 16 ∧ macroTileHeight c m = 32) ∨
      (macroTilePitch c m = 8 ∧ macroTileHeight c m = 64) := by
  obtain ⟨⟨hpipes, -⟩, -⟩ := hl
  rw [macroTilePitch, macroTileHeight, hpipes, h]
  obtain ha | ha | ha := aspect_mem m <;> rw [ha] <;> decide

theorem macroTile_shape_of_eight (hl : c.Legal) (h : c.banks = 8) (m : Nat) :
    (macroTilePitch c m = 64 ∧ macroTileHeight c m = 16) ∨
      (macroTilePitch c m = 32 ∧ macroTileHeight c m = 32) ∨
      (macroTilePitch c m = 16 ∧ macroTileHeight c m = 64) := by
  obtain ⟨⟨hpipes, -⟩, -⟩ := hl
  rw [macroTilePitch, macroTileHeight, hpipes, h]
  obtain ha | ha | ha := aspect_mem m <;> rw [ha] <;> decide

/-- Within a macro-tile the pipe and the bank name the micro-tile, for every shape: what the shape does not
fix of the upper bits of a coordinate, the XORs do. -/
theorem coordinates_eq_of_macroTile (hl : c.Legal) (m : Nat) (hx : x % 8 = x' % 8)
    (hy : y % 8 = y' % 8) (hcol : x / macroTilePitch c m = x' / macroTilePitch c m)
    (hrow : y / macroTileHeight c m = y' / macroTileHeight c m)
    (hpipe : pipeIndex x y = pipeIndex x' y') (hbank : bankIndex c x y = bankIndex c x' y') :
    x = x' ∧ y = y' := by
  have ⟨⟨_, hbanks, _⟩, _⟩ := hl
  obtain h | h := hbanks
  · obtain ⟨hp, hh⟩ | ⟨hp, hh⟩ | ⟨hp, hh⟩ := macroTile_shape_of_four hl h m
    all_goals
      rw [hp] at hcol
      rw [hh] at hrow
    · exact coordinates_eq_of_four hx hy (div_eq_of_div_eq hcol 2) (div_eq_of_div_eq hrow 4) hpipe
        hbank hl h (bit_eq_of_div_eq hcol 1) (.inl (bit_eq_of_div_eq hrow 2))
        (.inl (bit_eq_of_div_eq hrow 1))
    · exact coordinates_eq_of_four hx hy (div_eq_of_div_eq hcol 4) (div_eq_of_div_eq hrow 2) hpipe
        hbank hl h (bit_eq_of_div_eq hcol 2) (.inl (bit_eq_of_div_eq hrow 1))
        (.inr (bit_eq_of_div_eq hcol 1))
    · exact coordinates_eq_of_four hx hy (div_eq_of_div_eq hcol 8) (div_eq_of_div_eq hrow 1) hpipe
        hbank hl h (bit_eq_of_div_eq hcol 4) (.inr (bit_eq_of_div_eq hcol 1))
        (.inr (bit_eq_of_div_eq hcol 2))
  · obtain ⟨hp, hh⟩ | ⟨hp, hh⟩ | ⟨hp, hh⟩ := macroTile_shape_of_eight hl h m
    all_goals
      rw [hp] at hcol
      rw [hh] at hrow
    · exact coordinates_eq_of_eight hx hy (div_eq_of_div_eq hcol 1) (div_eq_of_div_eq hrow 4) hpipe
        hbank hl h (.inl (bit_eq_of_div_eq hrow 2)) (.inl (bit_eq_of_div_eq hrow 1))
    · exact coordinates_eq_of_eight hx hy (div_eq_of_div_eq hcol 2) (div_eq_of_div_eq hrow 2) hpipe
        hbank hl h (.inl (bit_eq_of_div_eq hrow 1)) (.inr (bit_eq_of_div_eq hcol 1))
    · exact coordinates_eq_of_eight hx hy (div_eq_of_div_eq hcol 4) (div_eq_of_div_eq hrow 1) hpipe
        hbank hl h (.inr (bit_eq_of_div_eq hcol 1)) (.inr (bit_eq_of_div_eq hcol 2))

/-! ## The parts of an address -/

/-- A number in base `n` has one last digit and one number before it. -/
theorem digits_eq {n a a' d d' : Nat} (hd : d < n) (hd' : d' < n) (h : d + n * a = d' + n * a') :
    d = d' ∧ a = a' := by
  have hmod := congrArg (· % n) h
  simp only [Nat.add_mul_mod_self_left, Nat.mod_eq_of_lt hd, Nat.mod_eq_of_lt hd'] at hmod
  subst hmod
  exact ⟨rfl, Nat.eq_of_mul_eq_mul_left (by omega) (Nat.add_left_cancel h)⟩

theorem interleave_eq_digits (c : Config) (total pipe bank : Nat) :
    interleave c total pipe bank = total % c.groupSize +
      c.groupSize * (pipe + c.pipes * (bank + c.banks * (total / c.groupSize))) := by
  rw [interleave]
  ring

/-- An address gives back the offset, the pipe and the bank it was assembled from. -/
theorem interleave_injective (hl : c.Legal) {total pipe bank total' pipe' bank' : Nat}
    (hp : pipe < c.pipes) (hp' : pipe' < c.pipes) (hb : bank < c.banks) (hb' : bank' < c.banks)
    (h : interleave c total pipe bank = interleave c total' pipe' bank') :
    total = total' ∧ pipe = pipe' ∧ bank = bank' := by
  have hg := groupSize_pos hl
  rw [interleave_eq_digits, interleave_eq_digits] at h
  obtain ⟨hlow, h⟩ := digits_eq (Nat.mod_lt _ hg) (Nat.mod_lt _ hg) h
  obtain ⟨hpipe, h⟩ := digits_eq hp hp' h
  obtain ⟨hbank, hhigh⟩ := digits_eq hb hb' h
  refine ⟨?_, hpipe, hbank⟩
  rw [← Nat.mod_add_div total c.groupSize, hlow, hhigh, Nat.mod_add_div]

theorem Latch.Checked.span_pos (h : Latch.Checked c l) : 0 < l.span := by
  have hpos : ∀ b ∈ [8, 16, 32, 64, 128], 0 < b / 8 := by decide
  exact hpos l.bpp h.bpp_legal

theorem bankOffset_eq (h : Latch.Checked c l) (x y : Nat) :
    bankOffset c l x y = l.span *
      (pixelIndex c x y l.bpp l.mode + 64 * thickness l.mode * macroTileIndex c l x y) := by
  have hbytes : 8 * thickness l.mode * l.bpp = l.span * (64 * thickness l.mode) := by
    rw [h.bpp_eq_span]
    ring
  rw [bankOffset, hbytes]
  ring

/-- The offset in a bank tells the position in the micro-tile and the macro-tile. -/
theorem bankOffset_injective (h : Latch.Checked c l)
    (heq : bankOffset c l x y = bankOffset c l x' y') :
    pixelIndex c x y l.bpp l.mode = pixelIndex c x' y' l.bpp l.mode ∧
      macroTileIndex c l x y = macroTileIndex c l x' y' := by
  have hlt : ∀ u v, pixelIndex c u v l.bpp l.mode < 64 * thickness l.mode := fun u v => by
    have hpixel := rowIndex_lt (pixelRowFor c.pixelBits l.bpp) u v
    have hthick := thickness_pos l.mode
    rw [pixelIndex_eq_rowIndex]
    omega
  rw [bankOffset_eq h, bankOffset_eq h] at heq
  exact digits_eq (hlt x y) (hlt x' y') (Nat.eq_of_mul_eq_mul_left h.span_pos heq)

/-- On a pitch of whole macro-tiles, the number of a macro-tile tells its column and its row. -/
theorem macroTileIndex_injective (hpitch : l.pitch.toNat % macroTilePitch c l.mode = 0)
    (hx : x < l.pitch.toNat) (hx' : x' < l.pitch.toNat)
    (h : macroTileIndex c l x y = macroTileIndex c l x' y') :
    x / macroTilePitch c l.mode = x' / macroTilePitch c l.mode ∧
      y / macroTileHeight c l.mode = y' / macroTileHeight c l.mode := by
  have hdvd := Nat.dvd_of_mod_eq_zero hpitch
  exact digits_eq (Nat.div_lt_div_of_lt_of_dvd hdvd hx) (Nat.div_lt_div_of_lt_of_dvd hdvd hx') h

/-! ## No two elements share a byte (43_address_resolver.md R189) -/

/-- On a pitch of whole macro-tiles no two elements have the same address. -/
theorem coordinates_eq_of_macroAddr (hl : c.Legal) (h : Latch.Checked c l)
    (ht : c.pixelBits.AllPermutations) (hpitch : l.pitch.toNat % macroTilePitch c l.mode = 0)
    (hx : x < l.elemW) (hx' : x' < l.elemW) {a : Nat} (ha : macroAddr c l x y = .ok a)
    (ha' : macroAddr c l x' y' = .ok a) : x = x' ∧ y = y' := by
  obtain ⟨-, -, heq⟩ := (macroAddr_eq_ok_iff hl h).mp ha
  obtain ⟨-, -, heq'⟩ := (macroAddr_eq_ok_iff hl h).mp ha'
  obtain ⟨htotal, hpipe, hbank⟩ := interleave_injective hl (swizzledPipe_lt hl l x y)
    (swizzledPipe_lt hl l x' y') (swappedBank_lt hl l x y) (swappedBank_lt hl l x' y')
    (heq.symm.trans heq')
  obtain ⟨hpixel, hindex⟩ := bankOffset_injective h htotal
  obtain ⟨hcol, hrow⟩ := macroTileIndex_injective hpitch (lt_of_lt_of_le hx h.pitch_ge)
    (lt_of_lt_of_le hx' h.pitch_ge) hindex
  obtain ⟨hxlow, hylow⟩ := mod_eight_eq_of_pixelIndex ht hpixel
  have hswap : swapEntry c l x = swapEntry c l x' := by rw [swapEntry, swapEntry, hcol]
  have hpipe' : pipeIndex x y = pipeIndex x' y' := Nat.xor_left_inj.mp hpipe
  have hbank' : bankIndex c x y = bankIndex c x' y' := by
    rw [swappedBank, swappedBank, hswap] at hbank
    exact Nat.xor_left_inj.mp (Nat.xor_left_inj.mp hbank)
  exact coordinates_eq_of_macroTile hl l.mode hxlow hylow hcol hrow hpipe' hbank'

/-- A group of at least 16 bytes is a whole number of elements. -/
theorem span_dvd_groupSize (hl : c.Legal) (h : Latch.Checked c l) (hg : 16 ≤ c.groupSize) :
    l.span ∣ c.groupSize := by
  have hspan : ∀ b ∈ [8, 16, 32, 64, 128], b / 8 ∣ 16 := by decide
  have hbits : 4 ≤ c.numGroupBits := by
    rw [groupSize_eq_two_pow hl] at hg
    exact (Nat.pow_le_pow_iff_right (by decide)).mp (show 2 ^ 4 ≤ _ from hg)
  rw [groupSize_eq_two_pow hl]
  exact (hspan l.bpp h.bpp_legal).trans (pow_dvd_pow 2 hbits)

/-- Then every element begins at a multiple of its size. -/
theorem span_dvd_macroAddr (hl : c.Legal) (h : Latch.Checked c l) (hg : 16 ≤ c.groupSize) {a : Nat}
    (ha : macroAddr c l x y = .ok a) : l.span ∣ a := by
  obtain ⟨-, -, rfl⟩ := (macroAddr_eq_ok_iff hl h).mp ha
  have hgroup := span_dvd_groupSize hl h hg
  have htotal : l.span ∣ bankOffset c l x y := ⟨_, bankOffset_eq h x y⟩
  rw [interleave_eq_digits]
  exact Nat.dvd_add ((Nat.dvd_mod_iff hgroup).mpr htotal) (hgroup.mul_right _)

/-- Different multiples of `n` are at least `n` apart. -/
theorem spansApart_of_dvd {a a' n : Nat} (h : n ∣ a) (h' : n ∣ a') (hne : a ≠ a') :
    spansApart a a' n := by
  obtain hlt | hlt := Nat.lt_or_gt_of_ne hne
  · have := Nat.le_of_dvd (by omega) (Nat.dvd_sub h' h)
    exact .inl (by omega)
  · have := Nat.le_of_dvd (by omega) (Nat.dvd_sub h h')
    exact .inr (by omega)

/-- Settles O44: the addresses are different multiples of the element's size. -/
theorem macroTiledElementsNeverOverlap : Obligations.MacroTiledElementsNeverOverlap := by
  unfold Obligations.MacroTiledElementsNeverOverlap
  intro c l x y x' y' a a' hl h ht hg hmacro hpitch hx hx' hne ha ha'
  rw [resolveAddr_of_macro h hmacro] at ha ha'
  refine spansApart_of_dvd (span_dvd_macroAddr hl h hg ha) (span_dvd_macroAddr hl h hg ha') ?_
  rintro rfl
  obtain ⟨rfl, rfl⟩ := coordinates_eq_of_macroAddr hl h ht hpitch hx hx' ha ha'
  exact hne rfl

end Sys2Proof.Machine
end

section
/-! The commands that resolve an element (43_address_resolver.md R170, R195, 44_block_decoder.md R221): the
errors RESOLVE, FETCH and FETCH_DECODE share, in their order (R171, R183, R184), and their results. -/

namespace Sys2Proof.Machine

variable {s : State} {c : Config} {l : Latch} {x y : Nat}

/-! ## The errors of an element (60_exceptions.md R264) -/

theorem decodeClass_of_latched {cls : BcClass} (hv : s.descValid = true)
    (hcls : s.lat.bcClass = some cls) : decodeClass s none = .ok cls := by
  rw [decodeClass, if_pos hv, hcls]

theorem exists_decodeClass_of_isBC (hv : s.descValid = true) (hbc : s.lat.isBC = true) :
    ∃ cls, decodeClass s none = .ok cls := by
  obtain ⟨cls, hcls⟩ := Option.isSome_iff_exists.mp hbc
  exact ⟨cls, decodeClass_of_latched hv hcls⟩

/-- The three commands raise what resolving the element ends in, FETCH_DECODE once it has a class. -/
theorem exec_of_resolveElement_error {i : Instr} {e : ErrorKind}
    (hi : i ∈ [.resolve, .fetch, .fetchDecode]) (hv : s.descValid = true)
    (hbc : i = .fetchDecode → s.lat.isBC = true) (h : resolveElement s = .error e) :
    exec i s = .next (s.raise e) := by
  simp only [List.mem_cons, List.not_mem_nil, or_false] at hi
  obtain rfl | rfl | rfl := hi
  · exact execResolve_of_error hv h
  · exact execFetch_of_error hv h
  · obtain ⟨cls, hcls⟩ := exists_decodeClass_of_isBC hv (hbc rfl)
    exact execFetchDecode_of_resolve_error hcls h

theorem resolveElement_of_outside (h : s.lat.elemW ≤ s.x ∨ s.lat.elemH ≤ s.y) :
    resolveElement s = .error .coordinateOutOfRange := by
  have hrange : ¬ (s.x < s.lat.elemW ∧ s.y < s.lat.elemH) := by omega
  rw [resolveElement, if_neg (by simpa [coordInRange] using hrange)]

/-- Settles O19: the coordinate check is the first of `resolveElement`. -/
theorem coordinateOutOfRangeRaised : Obligations.CoordinateOutOfRangeRaised := by
  unfold Obligations.CoordinateOutOfRangeRaised
  intro i s hi hv hbc hout
  exact exec_of_resolveElement_error hi hv hbc (resolveElement_of_outside hout)

/-! ## The errors of the macro-tiled class (43_address_resolver.md R183, R184) -/

theorem bankSwap_of_not_swapped (h : isBankSwapped l.mode = false) (bank : Nat) :
    bankSwap c l bank x = .ok bank :=
  if_neg (by simp [h])

theorem bankSwap_of_zero_width (h : isBankSwapped l.mode = true) (hbsw : l.bsw = 0) (bank : Nat) :
    bankSwap c l bank x = .error .arithmeticFault := by
  rw [bankSwap, if_pos h, if_pos hbsw]

theorem macroAddr_of_splitRefused (h : splitRefused c l = true) :
    macroAddr c l x y = .error .splitAmbiguous :=
  if_pos h

theorem macroAddr_of_zero_width (hsplit : splitRefused c l = false) (hm : isBankSwapped l.mode = true)
    (hbsw : l.bsw = 0) : macroAddr c l x y = .error .arithmeticFault := by
  simp only [macroAddr, hsplit, bankSwap_of_zero_width hm hbsw, Bool.false_eq_true, if_false]

theorem resolveAddr_of_macroTiled (h : l.tileClass = .macroTiled) :
    resolveAddr c l x y = macroAddr c l x y := by
  rw [resolveAddr, h]

/-- Only the macro-tiled class has errors (R187). -/
theorem macroTiled_of_resolveAddr_error {e : ErrorKind} (h : resolveAddr c l x y = .error e) :
    l.tileClass = .macroTiled ∧ macroAddr c l x y = .error e := by
  unfold resolveAddr at h
  split at h
  · cases h
  · cases h
  · rename_i hclass
    exact ⟨hclass, h⟩

theorem resolveAddr_error {e : ErrorKind} (h : resolveAddr c l x y = .error e) :
    e = .splitAmbiguous ∨ e = .arithmeticFault := by
  obtain ⟨-, hmacro⟩ := macroTiled_of_resolveAddr_error h
  exact (macroAddr_error hmacro).imp And.left And.left

theorem resolveAddr_eq_splitAmbiguous_iff :
    resolveAddr c l x y = .error .splitAmbiguous ↔
      l.tileClass = .macroTiled ∧ splitRefused c l = true := by
  constructor
  · intro h
    obtain ⟨hclass, hmacro⟩ := macroTiled_of_resolveAddr_error h
    obtain ⟨-, hsplit⟩ | ⟨hne, -⟩ := macroAddr_error hmacro
    · exact ⟨hclass, hsplit⟩
    · cases hne
  · rintro ⟨hclass, hsplit⟩
    rw [resolveAddr_of_macroTiled hclass, macroAddr_of_splitRefused hsplit]

theorem splitRefused_eq_true_iff :
    splitRefused c l = true ↔
      c.slicePolicy = .refuse ∧ c.splitSize < 8 * thickness l.mode * l.bpp := by
  rw [splitRefused, microTileBytes_eq, Bool.and_eq_true, decide_eq_true_iff, beq_iff_eq, and_comm]

theorem Latch.Checked.macroTiled_iff (h : Latch.Checked c l) :
    l.tileClass = .macroTiled ↔ 4 ≤ l.mode := by
  rw [h.tileClass_eq, tileClassOf]
  split
  · exact iff_of_false (by decide) (by omega)
  · split
    · exact iff_of_false (by decide) (by omega)
    · exact iff_of_true rfl (by omega)

/-- With the default geometry only the thick micro-tiles of 128-bit elements exceed `SPLIT_SIZE`. -/
theorem default_split_exceeded_iff {m bpp : Nat} (h4 : 4 ≤ m) (h16 : m < 16)
    (hbpp : bpp ∈ [8, 16, 32, 64, 128]) :
    2048 < 8 * thickness m * bpp ↔ m ∈ [7, 11, 13, 15] ∧ bpp = 128 := by
  have hbpp : bpp ≤ 64 ∨ bpp = 128 := by fin_cases hbpp <;> simp
  rw [thickness_of_macro h4 h16]
  split
  · rename_i hthick
    rw [and_iff_right hthick]
    omega
  · rename_i hthin
    rw [iff_false_right (hthin ∘ And.left)]
    omega

/-- Settles O41: a refused split is the only way to SplitAmbiguous. -/
theorem splitCheckRefuses : Obligations.SplitCheckRefuses := by
  unfold Obligations.SplitCheckRefuses
  have hmacro : ∀ m ∈ [4, 5, 6, 8, 9, 10, 12, 14, 7, 11, 13, 15], 4 ≤ m := by decide
  refine ⟨fun i s hi hinv hv hbc hm hx hy hpolicy hsize => ?_, fun c l x y hpolicy h => ?_,
    fun l x y hc => ?_⟩
  · have h4 : 4 ≤ s.lat.mode := hmacro _ hm
    have hclass := (hinv.latch_checked hv).macroTiled_iff.mpr h4
    have hsplit := splitRefused_eq_true_iff.mpr ⟨hpolicy, hsize⟩
    have herror : resolveAddr s.cfg s.lat s.x s.y = .error .splitAmbiguous :=
      resolveAddr_eq_splitAmbiguous_iff.mpr ⟨hclass, hsplit⟩
    exact exec_of_resolveElement_error hi hv hbc ((resolveElement_of_inside hx hy).trans herror)
  · obtain ⟨-, hsplit⟩ := resolveAddr_eq_splitAmbiguous_iff.mp h
    obtain ⟨hrefuse, -⟩ := splitRefused_eq_true_iff.mp hsplit
    rw [hpolicy] at hrefuse
    cases hrefuse
  · rw [resolveAddr_eq_splitAmbiguous_iff, splitRefused_eq_true_iff, hc.macroTiled_iff]
    have hdefault := fun h4 => default_split_exceeded_iff h4 l.tileMode.isLt hc.bpp_legal
    have hthick : ∀ m ∈ [7, 11, 13, 15], 4 ≤ m := by decide
    constructor
    · rintro ⟨h4, -, hsize⟩
      exact (hdefault h4).mp hsize
    · rintro ⟨hm, hbpp⟩
      have h4 : 4 ≤ l.mode := hthick _ hm
      exact ⟨h4, rfl, (hdefault h4).mpr ⟨hm, hbpp⟩⟩

/-- Settles O58: past the split check the bank swap divides by the width. -/
theorem zeroSwapWidthRaisesArithmeticFault : Obligations.ZeroSwapWidthRaisesArithmeticFault := by
  unfold Obligations.ZeroSwapWidthRaisesArithmeticFault
  intro i s hi hv hbc hclass hm hbsw hx hy hsplit
  have herror : resolveAddr s.cfg s.lat s.x s.y = .error .arithmeticFault := by
    rw [resolveAddr_of_macroTiled hclass, macroAddr_of_zero_width
      (splitRefused_eq_false_iff.mpr hsplit) (isBankSwapped_iff.mpr hm) hbsw]
  exact exec_of_resolveElement_error hi hv hbc ((resolveElement_of_inside hx hy).trans herror)

/-! ## RESOLVE (43_address_resolver.md R170) -/

/-- Settles O35: the errors in their order, then the two results of an address. -/
theorem resolveCommandResult : Obligations.ResolveCommandResult := by
  unfold Obligations.ResolveCommandResult
  intro s
  refine ⟨execResolve_of_notLoaded,
    fun hv hout => execResolve_of_error hv (resolveElement_of_outside hout), fun hv hx hy => ⟨?_, ?_⟩⟩
  · intro e he
    exact ⟨execResolve_of_error hv ((resolveElement_of_inside hx hy).trans he), resolveAddr_error he⟩
  · intro a ha
    have hexec := exec_resolve_of_resolveAddr hv hx hy ha
    refine ⟨fun hin => ?_, fun hout => ?_⟩
    · rw [hexec, if_pos hin]
    · rw [hexec, if_neg (by omega)]

/-! ## FETCH (43_address_resolver.md R195) -/

theorem addressOutOfRange_eq_false {a : Nat} (h : a + l.bpp / 8 ≤ l.dataSize.toNat) :
    addressOutOfRange l a = false :=
  decide_eq_false (Nat.not_lt.mpr h)

theorem addressOutOfRange_eq_true {a : Nat} (h : l.dataSize.toNat < a + l.bpp / 8) :
    addressOutOfRange l a = true :=
  decide_eq_true h

/-- FETCH of an element of the surface that has an address. -/
theorem exec_fetch_of_resolveAddr {a : Nat} (hv : s.descValid = true) (hx : s.x < s.lat.elemW)
    (hy : s.y < s.lat.elemH) (h : resolveAddr s.cfg s.lat s.x s.y = .ok a) :
    exec .fetch s = .next (s.fetchElement a) :=
  execFetch_of_ok hv ((resolveElement_of_inside hx hy).trans h)

/-- The block registers hold the bytes they are made of, in order, and zeros after them. -/
theorem BlockRegs.getD_bytes_ofBytes (bytes : List Byte) {i : Nat} (hi : i < 16) :
    (BlockRegs.ofBytes bytes).bytes.getD i 0 = bytes.getD i 0 := by
  simp only [BlockRegs.bytes, BlockRegs.ofBytes, packAt, wordBytes_packBytes]
  interval_cases i <;> rfl

theorem Memory.getD_readSpan (m : Memory) (addr n i : Nat) :
    (m.readSpan addr n).getD i 0 = if i < n then m.read (addr + i) else 0 := by
  rw [readSpan, List.getD_eq_getElem?_getD, List.getElem?_map]
  split
  · rename_i h
    rw [List.getElem?_range h]
    rfl
  · rename_i h
    rw [List.getElem?_eq_none (by simpa using h)]
    rfl

/-- Settles O45: the errors in their order, then the bytes of the element or a block of zeros. -/
theorem fetchCommandResult : Obligations.FetchCommandResult := by
  unfold Obligations.FetchCommandResult
  intro s
  refine ⟨execFetch_of_notLoaded,
    fun hv hout => execFetch_of_error hv (resolveElement_of_outside hout), fun hv hx hy => ⟨?_, ?_⟩⟩
  · intro e he
    exact execFetch_of_error hv ((resolveElement_of_inside hx hy).trans he)
  · intro a ha
    have hexec := exec_fetch_of_resolveAddr hv hx hy ha
    refine ⟨fun hin => ⟨BlockRegs.ofBytes (s.src.readSpan a s.lat.span), ?_, fun i hi => ?_⟩,
      fun hout => ?_⟩
    · rw [hexec, State.fetchElement_of_inside (addressOutOfRange_eq_false hin)]
      rfl
    · rw [BlockRegs.getD_bytes_ofBytes _ hi, Memory.getD_readSpan, Latch.span]
    · rw [hexec, State.fetchElement_of_outside (addressOutOfRange_eq_true hout)]
      rfl

/-! ## FETCH_DECODE (44_block_decoder.md R221) -/

/-- Settles O55: a fetch leaves the class, the texel's position and the parameters as they were. -/
theorem fetchDecodeIsFetchThenDecode : Obligations.FetchDecodeIsFetchThenDecode := by
  unfold Obligations.FetchDecodeIsFetchThenDecode
  intro s u cls a hv hcls hx hy ha hu
  have helem : resolveElement s = .ok a := (resolveElement_of_inside hx hy).trans ha
  cases hu.symm.trans (exec_fetch_of_resolveAddr hv hx hy ha)
  have hexec : exec .fetchDecode s = _ := execFetchDecode_of_ok (decodeClass_of_latched hv hcls) helem
  refine ⟨fun hin => ?_, fun hout => ?_⟩
  · have hdecode : ∀ sel, decodeClass (s.fetchElement a) sel = .ok cls →
        exec .fetchDecode s = exec (.decode sel) (s.fetchElement a) := fun sel hsel => by
      have hexec' : exec (.decode sel) (s.fetchElement a) = _ := execDecode_of_ok hsel
      rw [hexec, hexec', addressOutOfRange_eq_false hin, if_neg (by decide)]
      simp [State.tx, State.ty]
    exact ⟨hdecode none (decodeClass_of_latched (by simpa using hv) (by simpa using hcls)),
      hdecode (some cls) rfl⟩
  · rw [hexec, addressOutOfRange_eq_true hout, if_pos rfl]
    rfl

end Sys2Proof.Machine
end

section
/-! The parts of an address (43_address_resolver.md): the pixel index and PIXIDX (R175-R177), the linear and the
micro-tiled address (R172, R173), and the swizzle, the bank swap and the assembly of the macro-tiled one (R180,
R183, R185). -/

namespace Sys2Proof.Machine

variable {s : State} {c : Config} {l : Latch} {x y x' y' : Nat}

/-! ## PIXIDX and the pixel index (R175-R177) -/

theorem coordBitValue_eq_coordBit (s : State) (b : CoordBit) :
    coordBitValue s.x s.y b = (s.coordBit b).toNat := by
  cases b <;> simp only [coordBitValue, State.coordBit, bitAt_eq, toNat_getLsbD, State.x, State.y]

theorem execPixidx_of_loaded (hv : s.descValid = true) :
    execPixidx s = .next (s.setRes0 (pixelIndex s.cfg s.x s.y s.lat.bpp s.lat.mode)) := by
  rw [execPixidx, if_pos hv]

theorem execPixidx_of_notLoaded (hv : s.descValid = false) :
    execPixidx s = .next (s.raise .descriptorNotLoaded) := by
  rw [execPixidx, if_neg (by simp [hv])]

/-- Each legal bpp has a row of its own in the table. -/
theorem pixelRowFor_of_mem {t : PixelBitTable} {bpp : Nat} {r : PixelRow}
    (h : (bpp, r) ∈ [(8, t.c8), (16, t.c16), (32, t.c32), (64, t.c64), (128, t.c128)]) :
    pixelRowFor t bpp = r := by
  simp only [List.mem_cons, Prod.mk.injEq, List.not_mem_nil, or_false] at h
  obtain ⟨rfl, rfl⟩ | ⟨rfl, rfl⟩ | ⟨rfl, rfl⟩ | ⟨rfl, rfl⟩ | ⟨rfl, rfl⟩ := h <;> rfl

/-- Settles O33: the index is the six bits of the row of the bpp. -/
theorem pixidxCommandResult : Obligations.PixidxCommandResult := by
  unfold Obligations.PixidxCommandResult
  intro s
  refine ⟨fun r hv hr => ?_, execPixidx_of_notLoaded⟩
  refine (execPixidx_of_loaded hv).trans ?_
  rw [pixelIndex_eq_rowIndex, pixelRowFor_of_mem hr, rowIndex]
  simp only [coordBitValue_eq_coordBit]
  rfl

/-- The index of a position in a micro-tile, from the 64 positions to the 64 indices. -/
def positionIndex (r : PixelRow) (p : Fin 8 × Fin 8) : Fin 64 :=
  ⟨rowIndex r p.1 p.2, rowIndex_lt r p.1 p.2⟩

theorem positionIndex_injective {r : PixelRow} (hr : r.IsPermutation) :
    Function.Injective (positionIndex r) := by
  intro p q h
  obtain ⟨hx, hy⟩ := mod_eight_eq_of_rowIndex hr (congrArg Fin.val h)
  ext <;> omega

/-- Settles O34: an injection of 64 positions into 64 indices meets every index. -/
theorem pixelIndexIsOneToOne : Obligations.PixelIndexIsOneToOne := by
  unfold Obligations.PixelIndexIsOneToOne
  intro c bpp m ht
  refine ⟨fun x y x' y' hx hy hx' hy' h => ?_, fun n hn => ?_⟩
  · have hmod := mod_eight_eq_of_pixelIndex ht h
    omega
  · have hinj := positionIndex_injective (pixelRowFor_isPermutation ht bpp)
    obtain ⟨p, hp⟩ := (hinj.bijective_of_nat_card_le (by simp)).surjective ⟨n, hn⟩
    refine ⟨p.1, p.2, p.1.isLt, p.2.isLt, ?_⟩
    rw [pixelIndex_eq_rowIndex]
    exact congrArg Fin.val hp

/-! ## The linear address (R172) -/

theorem resolveAddr_of_linear (h : Latch.Checked c l) (hm : l.mode < 2) (x y : Nat) :
    resolveAddr c l x y = .ok (linearAddr l x y) := by
  rw [resolveAddr, h.tileClass_eq, tileClassOf, if_pos hm]

/-- A linear address is the raster position times the element's size. -/
theorem linearAddr_eq (h : Latch.Checked c l) (x y : Nat) :
    linearAddr l x y = l.span * (x + l.pitch.toNat * y) := by
  have hbits : (y * l.pitch.toNat + x) * l.bpp = 8 * (l.span * (x + l.pitch.toNat * y)) := by
    rw [h.bpp_eq_span]
    ring
  rw [linearAddr, hbits, Nat.mul_div_cancel_left _ (by decide)]

/-- Settles O36: the linear address has no error, and RESOLVE writes it whether or not it flags. -/
theorem resolveLinearIdentity : Obligations.ResolveLinearIdentity := by
  unfold Obligations.ResolveLinearIdentity
  intro s hi hv hm hx hy
  have hc := hi.latch_checked hv
  have hraster : s.lat.pitch.toNat = s.lat.elemW → linearAddr s.lat s.x s.y =
      (s.y * s.lat.elemW + s.x) * (s.lat.bpp / 8) := fun hpitch => by
    rw [linearAddr_eq hc, hpitch, Latch.span]
    ring
  have hexec := exec_resolve_of_resolveAddr hv hx hy
    (resolveAddr_of_linear hc (Nat.lt_succ_of_le hm) s.x s.y)
  refine ⟨_, hexec, ?_⟩
  split
  · exact ⟨rfl, rfl, fun hpitch => congrArg low32 (hraster hpitch)⟩
  · exact ⟨rfl, rfl, fun hpitch => congrArg low32 (hraster hpitch)⟩

/-! ## The micro-tiled address (R173) -/

/-- The number of an element's micro-tile, counted along the rows of the surface. -/
def microTileIndex (l : Latch) (x y : Nat) : Nat := x / 8 + l.pitch.toNat / 8 * (y / 8)

theorem resolveAddr_of_micro (h : Latch.Checked c l) (h2 : 2 ≤ l.mode) (h4 : l.mode < 4) (x y : Nat) :
    resolveAddr c l x y = .ok (microAddr c l x y) := by
  rw [resolveAddr, h.tileClass_eq, tileClassOf, if_neg (by omega), if_pos h4]

theorem thickness_of_micro (h4 : l.mode < 4) : thickness l.mode = if l.mode = 3 then 4 else 1 := by
  have hmode : ∀ m < 4, thickness m = if m = 3 then 4 else 1 := by decide
  exact hmode _ h4

theorem microAddr_eq (h : Latch.Checked c l) (h4 : l.mode < 4) (x y : Nat) :
    microAddr c l x y = 8 * thickness l.mode * l.bpp * microTileIndex l x y +
      l.span * pixelIndex c x y l.bpp l.mode := by
  simp only [microAddr, microTileBytes_eq, elemOffset_eq h, Nat.shiftRight_eq_div_pow, Nat.reducePow,
    microTileIndex, thickness_of_micro h4, Nat.mul_comm (y / 8)]

/-- Settles O37: with the statement's `th` the thickness of the mode. -/
theorem resolveMicroTiledAddress : Obligations.ResolveMicroTiledAddress := by
  unfold Obligations.ResolveMicroTiledAddress
  intro s th a hi hv hm hx hy ha
  have hc := hi.latch_checked hv
  have hmode : 2 ≤ s.lat.mode ∧ s.lat.mode < 4 ∧ th = thickness s.lat.mode := by
    unfold Latch.mode
    obtain ⟨hm, rfl⟩ | ⟨hm, rfl⟩ := hm <;> rw [hm] <;> decide
  obtain ⟨h2, h4, rfl⟩ := hmode
  refine exec_resolve_of_resolveAddr hv hx hy ((resolveAddr_of_micro hc h2 h4 _ _).trans ?_)
  rw [ha, microAddr_eq hc h4, microTileIndex, Nat.mul_comm (s.lat.pitch.toNat / 8)]
  rfl

/-! ## No two elements share a byte (R189) -/

/-- Where the address is the element's size times a place, different places do not overlap. -/
theorem spansApart_of_places {p p' n : Nat} (hne : p ≠ p') (hn : 0 < n) :
    spansApart (n * p) (n * p') n :=
  spansApart_of_dvd (Nat.dvd_mul_right n p) (Nat.dvd_mul_right n p')
    fun h => hne (Nat.eq_of_mul_eq_mul_left hn h)

/-- The place of an element of a micro-tiled surface, counted in elements of the buffer. -/
def microPlace (c : Config) (l : Latch) (x y : Nat) : Nat :=
  pixelIndex c x y l.bpp l.mode + 64 * thickness l.mode * microTileIndex l x y

theorem microAddr_eq_microPlace (h : Latch.Checked c l) (h4 : l.mode < 4) (x y : Nat) :
    microAddr c l x y = l.span * microPlace c l x y := by
  have hbytes : 8 * thickness l.mode * l.bpp = l.span * (64 * thickness l.mode) := by
    rw [h.bpp_eq_span]
    ring
  rw [microAddr_eq h h4, microPlace, hbytes]
  ring

theorem pixelIndex_lt_microTile (c : Config) (l : Latch) (x y : Nat) :
    pixelIndex c x y l.bpp l.mode < 64 * thickness l.mode := by
  have hpixel := rowIndex_lt (pixelRowFor c.pixelBits l.bpp) x y
  have hthick := thickness_pos l.mode
  rw [pixelIndex_eq_rowIndex]
  omega

/-- On a pitch of whole micro-tiles the place tells the micro-tile's column and row and the position in it. -/
theorem coordinates_eq_of_microPlace (ht : c.pixelBits.AllPermutations) (hpitch : l.pitch.toNat % 8 = 0)
    (hx : x < l.pitch.toNat) (hx' : x' < l.pitch.toNat)
    (h : microPlace c l x y = microPlace c l x' y') : x = x' ∧ y = y' := by
  obtain ⟨hpixel, hindex⟩ :=
    digits_eq (pixelIndex_lt_microTile c l x y) (pixelIndex_lt_microTile c l x' y') h
  obtain ⟨hcol, hrow⟩ := digits_eq (by omega) (by omega) hindex
  have hlow := mod_eight_eq_of_pixelIndex ht hpixel
  omega

/-- Settles O43: the place in the raster, or in the micro-tiles, tells the coordinate. -/
theorem linearAndMicroElementsNeverOverlap : Obligations.LinearAndMicroElementsNeverOverlap := by
  unfold Obligations.LinearAndMicroElementsNeverOverlap
  intro c l x y x' y' a a' h ht hmode hpitch hx hx' hne ha ha'
  have hxp := lt_of_lt_of_le hx h.pitch_ge
  have hxp' := lt_of_lt_of_le hx' h.pitch_ge
  by_cases hlinear : l.mode < 2
  · rw [resolveAddr_of_linear h hlinear, linearAddr_eq h] at ha ha'
    cases ha
    cases ha'
    refine spansApart_of_places (fun heq => hne ?_) h.span_pos
    obtain ⟨rfl, rfl⟩ := digits_eq hxp hxp' heq
    rfl
  · have h2 : 2 ≤ l.mode := Nat.le_of_not_lt hlinear
    have h4 : l.mode < 4 := Nat.lt_succ_of_le hmode
    rw [resolveAddr_of_micro h h2 h4, microAddr_eq_microPlace h h4] at ha ha'
    cases ha
    cases ha'
    refine spansApart_of_places (fun heq => hne ?_) h.span_pos
    obtain ⟨rfl, rfl⟩ := coordinates_eq_of_microPlace ht (hpitch h2) hxp hxp' heq
    rfl

/-! ## The swizzle, the bank swap and the assembly (R180, R183, R185) -/

/-- Settles O38: the swizzle reaches the pipe and the bank apart, and both stay in range. -/
theorem swizzleXorsPipeAndBank : Obligations.SwizzleXorsPipeAndBank := by
  unfold Obligations.SwizzleXorsPipeAndBank
  intro c l x y hl
  exact ⟨swizzledPipeBank_eq hl l x y, bankPipe_xor_lt hl l x y⟩

/-- Settles O39: the default geometry has groups of 2^8 bytes, 2 pipes and 4 banks. -/
theorem assembledPartsAreDisjoint : Obligations.AssembledPartsAreDisjoint := by
  unfold Obligations.AssembledPartsAreDisjoint
  refine ⟨fun c elem mto pipe bank total hl hp hb htotal => ?_,
    fun elem mto pipe bank total hp hb htotal => ?_⟩
  · rw [assemble_eq_interleave hl hp hb, htotal, interleave]
  · have hsum : assemble Config.default elem mto pipe bank =
        total / 256 * 2048 + bank * 512 + pipe * 256 + total % 256 := by
      rw [htotal]
      exact assemble_eq_interleave Config.default_legal hp hb
    rw [hsum]
    omega

/-- Settles O40: the swap XORs the ROM's entry, which is below `BANKS` as the bank is. -/
theorem bankSwapResult : Obligations.BankSwapResult := by
  unfold Obligations.BankSwapResult
  intro c l bank x hl hbank
  refine ⟨fun hm => bankSwap_of_not_swapped (isBankSwapped_eq_false_iff.mpr hm) bank,
    fun hm hbsw => bankSwap_of_zero_width (isBankSwapped_iff.mpr hm) hbsw bank,
    fun hm hbsw mtp hmtp => ⟨bank ^^^ swapEntry c l x, ?_, ?_, ?_⟩⟩
  · exact (bankSwap_eq_ok_iff hl).mpr ⟨fun _ => hbsw, rfl⟩
  · exact xor_lt_banks hl hbank (swapEntry_lt hl l x)
  · rw [swapEntry_eq hl, if_pos (show l.mode ∈ _ from hm), hmtp]
    rfl

end Sys2Proof.Machine
end

section
/-! The block decoder (44_block_decoder.md): a block as one little-endian number (R211), the colour palette a
channel at a time (R213-R215, R222), the three alphas (R216-R219), the packed texel (R220), and the results of
DECODE (R210) and FETCH_DECODE (R221). -/

namespace Sys2Proof.Machine

variable {s : State} {blk : BlockRegs} {cls : BcClass}

/-! ## The block as one number (R211) -/

/-- The block's sixteen bytes as one little-endian number: `BLK0` in its low 32 bits. -/
def BlockRegs.toNat (blk : BlockRegs) : Nat :=
  blk.b0.toNat + 2 ^ 32 * blk.b1.toNat + 2 ^ 64 * blk.b2.toNat + 2 ^ 96 * blk.b3.toNat

/-- The number of a byte list followed by another. -/
theorem leNat_append (as bs : List Byte) :
    leNat (as ++ bs) = leNat as + 2 ^ (8 * as.length) * leNat bs := by
  induction as with
  | nil => simp [leNat]
  | cons a as ih =>
    rw [List.cons_append, leNat, leNat, ih, List.length_cons]
    ring

theorem leNat_cons_div (b : Byte) (bs : List Byte) : leNat (b :: bs) / 2 ^ 8 = leNat bs := by
  have hb := b.isLt
  rw [leNat]
  omega

/-- Leaving out the first bytes divides the number. -/
theorem leNat_drop (k : Nat) (bs : List Byte) : leNat (bs.drop k) = leNat bs / 2 ^ (8 * k) := by
  induction bs generalizing k with
  | nil => simp [leNat]
  | cons b bs ih =>
    cases k with
    | zero => simp
    | succ k =>
      rw [List.drop_succ_cons, ih, Nat.mul_succ, Nat.add_comm, Nat.pow_add, ← Nat.div_div_eq_div_mul,
        leNat_cons_div]

/-- Keeping the first bytes only is a remainder. -/
theorem leNat_take (n : Nat) (bs : List Byte) : leNat (bs.take n) = leNat bs % 2 ^ (8 * n) := by
  induction bs generalizing n with
  | nil => simp [leNat]
  | cons b bs ih =>
    cases n with
    | zero => simp [leNat, Nat.mod_one]
    | succ n =>
      have hb := b.isLt
      have hhead : leNat (b :: bs) % 2 ^ 8 = b.toNat := by rw [leNat]; omega
      rw [List.take_succ_cons, leNat, ih, Nat.mul_succ, Nat.add_comm (8 * n), Nat.pow_add, Nat.mod_mul,
        hhead, leNat_cons_div]

theorem leNat_wordBytes (w : Word) : leNat (wordBytes w) = w.toNat := by
  have hw := w.isLt
  simp only [wordBytes, leNat, extractLsb'_toNat_eq]
  omega

theorem BlockRegs.leNat_bytes (blk : BlockRegs) : leNat blk.bytes = blk.toNat := by
  have hlen : ∀ w, (wordBytes w).length = 4 := fun _ => rfl
  simp only [bytes, toNat, leNat_append, leNat_wordBytes, List.length_append, hlen]

/-- A little-endian field of the block is its bits of the block's number. -/
theorem BlockRegs.le_eq (blk : BlockRegs) (k n : Nat) :
    blk.le k n = blk.toNat / 2 ^ (8 * k) % 2 ^ (8 * n) := by
  rw [le, leNat_take, leNat_drop, leNat_bytes]

/-- A code of `w` bits from a stream of codes. -/
theorem shiftRight_mul_and (v w i : Nat) :
    (v >>> (w * i)) &&& (2 ^ w - 1) = v / (2 ^ w) ^ i % 2 ^ w := by
  rw [Nat.shiftRight_eq_div_pow, Nat.pow_mul, Nat.and_two_pow_sub_one_eq_mod]

/-! ## The colour part of a block (R211, R212) -/

/-- The register of a block's endpoints: the first of its colour part. -/
def endpointsReg (blk : BlockRegs) (cls : BcClass) : Word := if cls = .bc1 then blk.b0 else blk.b2

/-- The register of a block's colour codes: the second of its colour part. -/
def codesReg (blk : BlockRegs) (cls : BcClass) : Word := if cls = .bc1 then blk.b1 else blk.b3

/-- The endpoints are the halves of one register of the colour part, the codes are the other. -/
theorem colourPart_eq (blk : BlockRegs) (cls : BcClass) :
    color0 blk cls = (endpointsReg blk cls).toNat % 65536 ∧
      color1 blk cls = (endpointsReg blk cls).toNat / 65536 ∧
      codeWord blk cls = (codesReg blk cls).toNat := by
  have h0 := blk.b0.isLt
  have h1 := blk.b1.isLt
  have h2 := blk.b2.isLt
  have h3 := blk.b3.isLt
  simp only [color0, color1, codeWord, BlockRegs.le_eq, BlockRegs.toNat, endpointsReg, codesReg]
  cases cls <;> simp only [colourBase, reduceCtorEq, if_true, if_false] <;> omega

theorem colourCode_eq (blk : BlockRegs) (cls : BcClass) (i : Nat) :
    colourCode blk cls i = (codesReg blk cls).toNat / 4 ^ i % 4 := by
  obtain ⟨-, -, hcodes⟩ := colourPart_eq blk cls
  rw [colourCode, hcodes]
  exact shiftRight_mul_and _ 2 i

/-! ## The endpoints (R213) -/

/-- `e5` appends a 5-bit number's top bits to it. -/
theorem expand5_eq {v : Nat} (h : v < 32) : expand5 v = 8 * v + v / 4 := by
  rw [expand5, Nat.shiftRight_eq_div_pow, shiftLeft_or_eq (by omega)]
  omega

/-- `e6` appends a 6-bit number's top bits to it. -/
theorem expand6_eq {v : Nat} (h : v < 64) : expand6 v = 4 * v + v / 16 := by
  rw [expand6, Nat.shiftRight_eq_div_pow, shiftLeft_or_eq (by omega)]
  omega

/-- The 5-6-5 fields of a colour, each expanded to eight bits. -/
theorem expandColour_eq {c : Nat} (h : c < 65536) :
    expandColour c = ⟨8 * (c / 2048) + c / 2048 / 4, 4 * (c / 32 % 64) + c / 32 % 64 / 16,
      8 * (c % 32) + c % 32 / 4⟩ := by
  have hr : (c >>> 11) &&& 31 = c / 2048 := by
    rw [Nat.shiftRight_eq_div_pow, Nat.and_two_pow_sub_one_eq_mod _ 5]
    omega
  have hg : (c >>> 5) &&& 63 = c / 32 % 64 := by
    rw [Nat.shiftRight_eq_div_pow]
    exact Nat.and_two_pow_sub_one_eq_mod _ 6
  have hb : c &&& 31 = c % 32 := Nat.and_two_pow_sub_one_eq_mod _ 5
  rw [expandColour, hr, hg, hb, expand5_eq (by omega), expand6_eq (by omega), expand5_eq (by omega)]

/-- Every channel is one byte. -/
abbrev Rgb.InBytes (col : Rgb) : Prop := col.r < 256 ∧ col.g < 256 ∧ col.b < 256

theorem expandColour_inBytes {c : Nat} (h : c < 65536) : (expandColour c).InBytes := by
  rw [expandColour_eq h]
  refine ⟨?_, ?_, ?_⟩ <;> dsimp only <;> omega

/-! ## The colour palette (R214, R215, R222) -/

/-- One channel of a palette entry, from that channel of the two endpoints. -/
def paletteChannel (code2Four : Bool) (cls : BcClass) (c0 c1 code p q : Nat) : Nat :=
  if code = 0 then p else if code = 1 then q
  else if code = 2 then
    (if c1 < c0 ∨ (code2Four = true ∧ cls ≠ .bc1) then (2 * p + q) / 3 else (p + q) / 2)
  else (if c1 < c0 ∨ cls ≠ .bc1 then (p + 2 * q) / 3 else 0)

/-- The one entry that is not opaque: code 3 of BC1 with `color0` not above `color1`. -/
abbrev PunchThrough (cls : BcClass) (c0 c1 code : Nat) : Prop :=
  cls = .bc1 ∧ c0 ≤ c1 ∧ 3 ≤ code

section Palette

variable {code2Four : Bool} {c0 c1 code : Nat}

/-- The palette channel by channel, and its transparent entry. -/
theorem paletteColour_eq (code2Four : Bool) (cls : BcClass) (c0 c1 code : Nat) :
    paletteColour code2Four cls c0 c1 code =
      (⟨paletteChannel code2Four cls c0 c1 code (expandColour c0).r (expandColour c1).r,
        paletteChannel code2Four cls c0 c1 code (expandColour c0).g (expandColour c1).g,
        paletteChannel code2Four cls c0 c1 code (expandColour c0).b (expandColour c1).b⟩,
        decide (¬ PunchThrough cls c0 c1 code)) := by
  unfold paletteColour paletteChannel mixColours PunchThrough
  obtain rfl | rfl | rfl | h3 : code = 0 ∨ code = 1 ∨ code = 2 ∨ 3 ≤ code := by omega
  · simp
  · simp
  · by_cases hmix : c1 < c0 ∨ (code2Four = true ∧ cls ≠ .bc1) <;> simp [hmix]
  · have hcode : code ≠ 0 ∧ code ≠ 1 ∧ code ≠ 2 := by omega
    by_cases hmix : c1 < c0 ∨ cls ≠ .bc1
    · have hopaque : cls ≠ .bc1 ∨ c1 < c0 ∨ code < 3 := hmix.symm.imp_right .inl
      simp [hcode, hmix, hopaque]
    · obtain ⟨hle, hcls⟩ := not_or.mp hmix
      simp [hcode, h3, hle, Nat.not_lt.mp hle, not_not.mp hcls]

/-- Every entry of the palette is a mean of its endpoints, but for the 0 of the transparent one. -/
theorem paletteChannel_between (h : ¬ PunchThrough cls c0 c1 code) (p q : Nat) :
    min p q ≤ paletteChannel code2Four cls c0 c1 code p q ∧
      paletteChannel code2Four cls c0 c1 code p q ≤ max p q := by
  unfold paletteChannel
  by_cases h3 : 3 ≤ code
  · have hfour : c1 < c0 ∨ cls ≠ .bc1 := by
      by_contra hnot
      obtain ⟨hle, hcls⟩ := not_or.mp hnot
      exact h ⟨not_not.mp hcls, by omega, h3⟩
    rw [if_neg (by omega), if_neg (by omega), if_neg (by omega), if_pos hfour]
    omega
  · split_ifs <;> omega

theorem paletteChannel_of_punchThrough (h : PunchThrough cls c0 c1 code) (p q : Nat) :
    paletteChannel code2Four cls c0 c1 code p q = 0 := by
  obtain ⟨rfl, hle, h3⟩ := h
  have hfour : ¬ (c1 < c0 ∨ BcClass.bc1 ≠ .bc1) := by simpa using hle
  rw [paletteChannel, if_neg (by omega), if_neg (by omega), if_neg (by omega), if_neg hfour]

theorem paletteChannel_lt {p q n : Nat} (hp : p < n) (hq : q < n) :
    paletteChannel code2Four cls c0 c1 code p q < n := by
  by_cases h : PunchThrough cls c0 c1 code
  · rw [paletteChannel_of_punchThrough h]
    omega
  · have hle := (paletteChannel_between (code2Four := code2Four) h p q).2
    omega

/-- The transparent entry is black (R216). -/
theorem paletteColour_of_punchThrough (h : PunchThrough cls c0 c1 code) :
    paletteColour code2Four cls c0 c1 code = (⟨0, 0, 0⟩, false) := by
  rw [paletteColour_eq, decide_eq_false (not_not.mpr h)]
  simp only [paletteChannel_of_punchThrough h]

/-- Between two equal endpoints there is that colour only (R223). -/
theorem paletteColour_self (h : ¬ PunchThrough cls c0 c0 code) :
    paletteColour code2Four cls c0 c0 code = (expandColour c0, true) := by
  have hself : ∀ p, paletteChannel code2Four cls c0 c0 code p p = p := fun p => by
    have hbetween := paletteChannel_between (code2Four := code2Four) h p p
    omega
  rw [paletteColour_eq, decide_eq_true h, hself, hself, hself]

theorem paletteColour_inBytes (h0 : c0 < 65536) (h1 : c1 < 65536) :
    (paletteColour code2Four cls c0 c1 code).1.InBytes := by
  obtain ⟨hr0, hg0, hb0⟩ := expandColour_inBytes h0
  obtain ⟨hr1, hg1, hb1⟩ := expandColour_inBytes h1
  rw [paletteColour_eq]
  exact ⟨paletteChannel_lt hr0 hr1, paletteChannel_lt hg0 hg1, paletteChannel_lt hb0 hb1⟩

end Palette

/-- A texel's colour from the registers of its block's colour part. -/
theorem texelColour_eq (c : Config) (blk : BlockRegs) (cls : BcClass) (i : Nat) :
    texelColour c blk cls i =
      paletteColour c.bc23Code2Four cls ((endpointsReg blk cls).toNat % 65536)
        ((endpointsReg blk cls).toNat / 65536) ((codesReg blk cls).toNat / 4 ^ i % 4) := by
  obtain ⟨h0, h1, -⟩ := colourPart_eq blk cls
  rw [texelColour, h0, h1, colourCode_eq]

theorem texelColour_inBytes (c : Config) (blk : BlockRegs) (cls : BcClass) (i : Nat) :
    (texelColour c blk cls i).1.InBytes := by
  have hreg := (endpointsReg blk cls).isLt
  rw [texelColour_eq]
  exact paletteColour_inBytes (by omega) (by omega)

/-- Settles O53: an opaque entry's channels are means of the endpoints'. -/
theorem paletteLiesBetweenEndpoints : Obligations.PaletteLiesBetweenEndpoints := by
  unfold Obligations.PaletteLiesBetweenEndpoints
  intro four cls c0 c1 code col h
  rw [paletteColour_eq, Prod.mk.injEq] at h
  obtain ⟨rfl, hopaque⟩ := h
  have hbetween := fun p q =>
    paletteChannel_between (code2Four := four) (of_decide_eq_true hopaque) p q
  exact ⟨hbetween _ _, hbetween _ _, hbetween _ _⟩

/-! ## The alpha part of a block (R211, R217-R219) -/

/-- The low 64 bits of the block's number are its first two registers. -/
theorem BlockRegs.toNat_mod (blk : BlockRegs) :
    blk.toNat % 2 ^ 64 = blk.b0.toNat + 2 ^ 32 * blk.b1.toNat := by
  have h0 := blk.b0.isLt
  have h1 := blk.b1.isLt
  rw [toNat]
  omega

/-- A BC2 alpha is a nibble of the alpha word beside itself: 17 times the nibble. -/
theorem bc2Alpha_eq (blk : BlockRegs) (i : Nat) :
    bc2Alpha blk i = 17 * ((blk.b0.toNat + 2 ^ 32 * blk.b1.toNat) / 16 ^ i % 16) := by
  have hword : blk.le 0 8 = blk.b0.toNat + 2 ^ 32 * blk.b1.toNat := by
    rw [BlockRegs.le_eq, Nat.mul_zero, Nat.pow_zero, Nat.div_one]
    exact blk.toNat_mod
  have hnibble : (blk.le 0 8 >>> (4 * i)) &&& 15 = blk.le 0 8 / 16 ^ i % 16 :=
    shiftRight_mul_and _ 4 i
  rw [bc2Alpha, hnibble, hword, Nat.or_comm, shiftLeft_or_eq (by omega)]
  omega

/-- The first two bytes of a BC3 block are its alpha endpoints. -/
theorem alphaEndpoints_eq (blk : BlockRegs) :
    blk.le 0 1 = blk.b0.toNat % 256 ∧ blk.le 1 1 = blk.b0.toNat / 256 % 256 := by
  have h0 := blk.b0.isLt
  rw [BlockRegs.le_eq, BlockRegs.le_eq, BlockRegs.toNat]
  omega

/-- The BC3 alpha codes are the 48-bit stream at byte 2. -/
theorem alphaCode_eq (blk : BlockRegs) (i : Nat) :
    alphaCode blk i = (blk.b0.toNat + 2 ^ 32 * blk.b1.toNat) / 65536 / 8 ^ i % 8 := by
  have hstream : blk.le 2 6 = (blk.b0.toNat + 2 ^ 32 * blk.b1.toNat) / 65536 := by
    have hlow := blk.toNat_mod
    rw [BlockRegs.le_eq]
    omega
  rw [alphaCode, hstream]
  exact shiftRight_mul_and _ 3 i

/-- A step of a ramp between two bytes is a byte, its weights adding up to the divisor. -/
theorem ramp_lt {a0 a1 v w d : Nat} (h0 : a0 < 256) (h1 : a1 < 256) (hd : 0 < d) (hsum : v + w = d) :
    (a0 * v + a1 * w) / d < 256 := by
  rw [Nat.div_lt_iff_lt_mul hd]
  have hv : a0 * v ≤ 255 * v := Nat.mul_le_mul_right v (by omega)
  have hw : a1 * w ≤ 255 * w := Nat.mul_le_mul_right w (by omega)
  omega

theorem alphaValue_lt {a0 a1 code : Nat} (h0 : a0 < 256) (h1 : a1 < 256) (hc : code < 8) :
    alphaValue a0 a1 code < 256 := by
  unfold alphaValue
  split_ifs
  · exact h0
  · exact h1
  · exact ramp_lt h0 h1 (by decide) (by omega)
  · decide
  · decide
  · exact ramp_lt h0 h1 (by decide) (by omega)

/-- The eight entries of the alpha palette, the ramp of five steps before its two constants. -/
theorem alphaValue_eq (a0 a1 : Nat) {code : Nat} (hc : code < 8) :
    alphaValue a0 a1 code =
      if code = 0 then a0
      else if code = 1 then a1
      else if a1 < a0 then (a0 * (8 - code) + a1 * (code - 1)) / 7
      else if code ≤ 5 then (a0 * (6 - code) + a1 * (code - 1)) / 5
      else if code = 6 then 0 else 255 := by
  obtain h5 | rfl | rfl : code ≤ 5 ∨ code = 6 ∨ code = 7 := by omega
  · rw [alphaValue, if_pos h5, if_neg (show code ≠ 6 by omega), if_neg (show code ≠ 7 by omega)]
  · rfl
  · rfl

theorem texelAlpha_lt (blk : BlockRegs) (cls : BcClass) (i : Nat) (isOpaque : Bool) :
    texelAlpha blk cls i isOpaque < 256 := by
  cases cls with
  | bc1 => cases isOpaque <;> simp [texelAlpha]
  | bc2 =>
    rw [texelAlpha, bc2Alpha_eq]
    omega
  | bc3 =>
    obtain ⟨ha0, ha1⟩ := alphaEndpoints_eq blk
    exact alphaValue_lt (by omega) (by omega) (by rw [alphaCode_eq]; omega)

/-! ## The packed texel (R220) -/

/-- The channels of a packed texel do not run into each other. -/
theorem packTexel_fields {col : Rgb} (h : col.InBytes) {a : Nat} (ha : a < 256) :
    ((low32 (packTexel col a)).extractLsb' 0 8).toNat = col.r ∧
      ((low32 (packTexel col a)).extractLsb' 8 8).toNat = col.g ∧
      ((low32 (packTexel col a)).extractLsb' 16 8).toNat = col.b ∧
      ((low32 (packTexel col a)).extractLsb' 24 8).toNat = a := by
  obtain ⟨hr, hg, hb⟩ := h
  simp only [extractLsb'_toNat_eq, BitVec.toNat_ofNat, packTexel]
  omega

/-- The texel of the block registers at the position in `ARG_T`, as the class `cls`. -/
def State.texel (s : State) (cls : BcClass) : Nat :=
  decodeTexel s.cfg s.blk cls (s.argT.toNat % 4) (s.argT.toNat / 4)

theorem State.tx_eq (s : State) : s.tx = s.argT.toNat % 4 := by
  rw [State.tx, BitVec.extractLsb'_toNat, Nat.shiftRight_zero]

theorem State.ty_eq (s : State) : s.ty = s.argT.toNat / 4 := by
  have ht := s.argT.isLt
  rw [State.ty, BitVec.extractLsb'_toNat, Nat.shiftRight_eq_div_pow]
  omega

section Texel

variable {col : Rgb} {isOpaque : Bool}

/-- `ARG_T` is the texel's index (R212). -/
theorem State.texel_eq (h : texelColour s.cfg s.blk cls s.argT.toNat = (col, isOpaque)) :
    s.texel cls = packTexel col (texelAlpha s.blk cls s.argT.toNat isOpaque) := by
  have hindex : texelIndex (s.argT.toNat % 4) (s.argT.toNat / 4) = s.argT.toNat :=
    Nat.div_add_mod _ 4
  rw [texel, decodeTexel, hindex, h]

/-- The four bytes of a texel: its palette entry's channels and its alpha. -/
theorem State.texel_fields (h : texelColour s.cfg s.blk cls s.argT.toNat = (col, isOpaque)) :
    ((low32 (s.texel cls)).extractLsb' 0 8).toNat = col.r ∧
      ((low32 (s.texel cls)).extractLsb' 8 8).toNat = col.g ∧
      ((low32 (s.texel cls)).extractLsb' 16 8).toNat = col.b ∧
      ((low32 (s.texel cls)).extractLsb' 24 8).toNat =
        texelAlpha s.blk cls s.argT.toNat isOpaque := by
  have hcol := texelColour_inBytes s.cfg s.blk cls s.argT.toNat
  rw [h] at hcol
  rw [State.texel_eq h]
  exact packTexel_fields hcol (texelAlpha_lt _ _ _ _)

end Texel

/-! ## DECODE (R210) -/

/-- DECODE with a class to decode writes the texel to `RES1`, and nothing else. -/
theorem exec_decode_of_class {sel : Option BcClass} (h : decodeClass s sel = .ok cls) :
    exec (.decode sel) s = .next { s with res1 := low32 (s.texel cls) } := by
  rw [State.texel, ← s.tx_eq, ← s.ty_eq]
  exact execDecode_of_ok h

theorem decodeClass_of_notLoaded (hv : s.descValid = false) :
    decodeClass s none = .error .descriptorNotLoaded :=
  if_neg (by simp [hv])

theorem decodeClass_of_uncompressed (hv : s.descValid = true) (hbc : s.lat.isBC = false) :
    decodeClass s none = .error .formatClassMismatch := by
  have hnone : s.lat.bcClass = none := by simpa [Latch.isBC] using hbc
  rw [decodeClass, if_pos hv, hnone]

/-- Settles O46: the class selection decides what DECODE does. -/
theorem decodeCommandResult : Obligations.DecodeCommandResult := by
  unfold Obligations.DecodeCommandResult
  intro s
  exact ⟨fun cls => exec_decode_of_class rfl,
    fun hv => execDecode_of_error (decodeClass_of_notLoaded hv),
    fun hv hbc => execDecode_of_error (decodeClass_of_uncompressed hv hbc),
    fun cls hv hcls => exec_decode_of_class (decodeClass_of_latched hv hcls)⟩

/-- Settles O48: `mix` is the palette's channel, taken of each field of the two endpoints. -/
theorem decodeColourFromRegisters : Obligations.DecodeColourFromRegisters := by
  unfold Obligations.DecodeColourFromRegisters
  intro s cls w0 w1 c0 c1 code mix hw0 hw1 hc0 hc1 hcode hmix
  obtain rfl : mix = paletteChannel s.cfg.bc23Code2Four cls c0 c1 code :=
    funext fun p => funext fun q => hmix p q
  have hw0lt := w0.isLt
  have hcolour : texelColour s.cfg s.blk cls s.argT.toNat =
      paletteColour s.cfg.bc23Code2Four cls c0 c1 code := by
    rw [texelColour_eq, hcode, hc0, hc1, hw0, hw1, endpointsReg, codesReg]
  rw [paletteColour_eq, expandColour_eq (by omega), expandColour_eq (by omega)] at hcolour
  obtain ⟨hr, hg, hb, -⟩ := State.texel_fields hcolour
  exact ⟨_, exec_decode_of_class rfl, hr, hg, hb⟩

/-! ### BC1 (R211, R216, R223) -/

/-- The colour part of a BC1 block is the whole block: its first two registers. -/
theorem texelColour_bc1_eq (c : Config) (blk : BlockRegs) (i : Nat) :
    texelColour c blk .bc1 i = paletteColour c.bc23Code2Four .bc1 (blk.b0.toNat % 65536)
      (blk.b0.toNat / 65536) (blk.b1.toNat / 4 ^ i % 4) :=
  texelColour_eq c blk .bc1 i

/-- A BC1 texel is made of the first two block registers. -/
theorem decodeTexel_bc1_congr {blk' : BlockRegs} (h0 : blk'.b0 = blk.b0) (h1 : blk'.b1 = blk.b1)
    (c : Config) (tx ty : Nat) : decodeTexel c blk' .bc1 tx ty = decodeTexel c blk .bc1 tx ty := by
  have hcolour : ∀ i, texelColour c blk' .bc1 i = texelColour c blk .bc1 i := fun i => by
    rw [texelColour_bc1_eq, texelColour_bc1_eq, h0, h1]
  simp only [decodeTexel, hcolour, texelAlpha]

/-- Settles O47: the last two block registers go through the command as they are. -/
theorem bc1ReadsOnlyEightBytes : Obligations.Bc1ReadsOnlyEightBytes := by
  unfold Obligations.Bc1ReadsOnlyEightBytes
  intro s t b2 b3 ht
  cases ht.symm.trans (exec_decode_of_class rfl)
  have htexel : State.texel { s with blk := { s.blk with b2 := b2, b3 := b3 } } .bc1 = s.texel .bc1 :=
    decodeTexel_bc1_congr rfl rfl _ _ _
  rw [exec_decode_of_class rfl, htexel]

/-- A BC1 texel of the transparent entry is 0. -/
theorem State.texel_bc1_of_punchThrough {code2Four : Bool} {c0 c1 code : Nat}
    (hcolour : texelColour s.cfg s.blk .bc1 s.argT.toNat = paletteColour code2Four .bc1 c0 c1 code)
    (h : PunchThrough .bc1 c0 c1 code) : s.texel .bc1 = 0 := by
  rw [paletteColour_of_punchThrough h] at hcolour
  rw [State.texel_eq hcolour]
  rfl

/-- Settles O49: the entry of code 3 is the transparent one, every other is opaque. -/
theorem bc1AlphaFromRegisters : Obligations.Bc1AlphaFromRegisters := by
  unfold Obligations.Bc1AlphaFromRegisters
  intro s code hcode
  have hcolour := texelColour_bc1_eq s.cfg s.blk s.argT.toNat
  rw [← hcode] at hcolour
  refine ⟨_, exec_decode_of_class rfl, fun ⟨h3, hle⟩ => ?_, fun h => ?_⟩
  · have htexel : s.texel .bc1 = 0 := State.texel_bc1_of_punchThrough hcolour ⟨rfl, hle, h3.ge⟩
    rw [htexel]
    rfl
  · have hopaque : ¬ PunchThrough .bc1 (s.blk.b0.toNat % 65536) (s.blk.b0.toNat / 65536) code := by
      rintro ⟨-, hle, h3⟩
      exact h ⟨by omega, hle⟩
    rw [paletteColour_eq, decide_eq_true hopaque] at hcolour
    obtain ⟨-, -, -, ha⟩ := State.texel_fields hcolour
    exact ha

/-- Settles O50: of two equal endpoints code 3 is the transparent entry. -/
theorem bc1DegenerateBlock : Obligations.Bc1DegenerateBlock := by
  unfold Obligations.Bc1DegenerateBlock
  intro s code v hv0 hv1 hcode
  have hcolour := texelColour_bc1_eq s.cfg s.blk s.argT.toNat
  rw [← hcode, ← hv0, hv1] at hcolour
  have hexec : exec (.decode (some .bc1)) s = _ := exec_decode_of_class rfl
  rw [hexec]
  by_cases h3 : code = 3
  · rw [if_pos h3, State.texel_bc1_of_punchThrough hcolour ⟨rfl, le_rfl, h3.ge⟩]
    rfl
  · have hopaque : ¬ PunchThrough .bc1 v v code := by
      rintro ⟨-, -, hge⟩
      omega
    rw [paletteColour_self hopaque, expandColour_eq (by omega)] at hcolour
    have hsum : s.texel .bc1 = 0xFF000000 + 65536 * (8 * (v % 32) + v % 32 / 4) +
        256 * (4 * (v / 32 % 64) + v / 32 % 64 / 16) + (8 * (v / 2048) + v / 2048 / 4) := by
      rw [State.texel_eq hcolour, packTexel, texelAlpha, if_pos rfl]
      dsimp only
      omega
    rw [if_neg h3, hsum]

/-! ### BC2 and BC3 (R217-R219) -/

/-- Settles O51: the alpha byte is the nibble beside itself. -/
theorem bc2AlphaFromRegisters : Obligations.Bc2AlphaFromRegisters := by
  unfold Obligations.Bc2AlphaFromRegisters
  intro s
  obtain ⟨-, -, -, ha⟩ := State.texel_fields (s := s) (cls := .bc2) rfl
  exact ⟨_, exec_decode_of_class rfl, ha.trans (bc2Alpha_eq _ _)⟩

/-- Settles O52: the alpha palette's entries, in the order of the statement. -/
theorem bc3AlphaFromRegisters : Obligations.Bc3AlphaFromRegisters := by
  unfold Obligations.Bc3AlphaFromRegisters
  intro s a0 a1 code ha0 ha1 hcode
  obtain ⟨-, -, -, ha⟩ := State.texel_fields (s := s) (cls := .bc3) rfl
  obtain ⟨hend0, hend1⟩ := alphaEndpoints_eq s.blk
  rw [texelAlpha, hend0, hend1, alphaCode_eq, ← ha0, ← ha1, ← hcode] at ha
  have hpalette := alphaValue_eq a0 a1 (show code < 8 by omega)
  exact ⟨_, exec_decode_of_class rfl, ha.trans hpalette⟩

/-! ## FETCH_DECODE (R221) -/

/-- Settles O54: the errors in their order, then the fetched block with its texel, or zeros. -/
theorem fetchDecodeCommandResult : Obligations.FetchDecodeCommandResult := by
  unfold Obligations.FetchDecodeCommandResult
  intro s
  refine ⟨fun hv => execFetchDecode_of_class_error (decodeClass_of_notLoaded hv),
    fun hv hbc => execFetchDecode_of_class_error (decodeClass_of_uncompressed hv hbc),
    fun cls hv hcls => ?_⟩
  have hclass := decodeClass_of_latched hv hcls
  refine ⟨fun hout => execFetchDecode_of_resolve_error hclass (resolveElement_of_outside hout),
    fun hx hy => ⟨fun e he => ?_, fun a ha => ?_⟩⟩
  · exact execFetchDecode_of_resolve_error hclass ((resolveElement_of_inside hx hy).trans he)
  · have hexec : exec .fetchDecode s = _ :=
      execFetchDecode_of_ok hclass ((resolveElement_of_inside hx hy).trans ha)
    refine ⟨fun hin => ⟨BlockRegs.ofBytes (s.src.readSpan a s.lat.span), ?_, fun i hi => ?_⟩,
      fun hout => ?_⟩
    · have hinside := addressOutOfRange_eq_false hin
      rw [hexec, hinside, State.fetchElement_of_inside hinside, s.tx_eq, s.ty_eq]
      rfl
    · rw [BlockRegs.getD_bytes_ofBytes _ hi, Memory.getD_readSpan, Latch.span]
    · have houtside := addressOutOfRange_eq_true hout
      rw [hexec, houtside, State.fetchElement_of_outside houtside]
      rfl

end Sys2Proof.Machine
end

section
/-! The non-recoverable errors (60_exceptions.md): what a command that raises one leaves behind (R262), and the
first of them in the order, a descriptor that is not loaded (R255, R264). -/

namespace Sys2Proof.Machine

variable {s t : State}

/-! ## What a raised error writes (R262) -/

/-- The errors LOAD_DESC raises (40_control_and_descriptor.md R113, 60_exceptions.md R259). -/
def descriptorErrors : List ErrorKind :=
  [.unsupportedFormat, .reservedTileMode, .descriptorInvalid, .arithmeticFault]

theorem mem_descriptorErrors_of_checkDescriptor {c : Config} {d : DescRegs} {e : ErrorKind}
    (h : checkDescriptor c d = .error e) : e ∈ descriptorErrors := by
  obtain rfl | rfl | rfl | hbsw := checkDescriptor_error h
  · simp [descriptorErrors]
  · simp [descriptorErrors]
  · simp [descriptorErrors]
  · simp [bankSwappedWidth_error hbsw, descriptorErrors]

theorem code_mem_of_mem_commandErrors {e : ErrorKind} (h : e ∈ commandErrors) :
    e.code ∈ [0x04#8, 0x05#8, 0x08#8, 0x09#8, 0x0A#8] :=
  List.mem_map_of_mem (f := ErrorKind.code) h

theorem code_mem_of_mem_descriptorErrors {e : ErrorKind} (h : e ∈ descriptorErrors) :
    e.code ∈ [0x01#8, 0x02#8, 0x03#8, 0x09#8] :=
  List.mem_map_of_mem (f := ErrorKind.code) h

/-- A command that sets `ERR` ended in `raise`: LOAD_DESC after it dropped the latch, any other command
at the state it found. -/
theorem CommandEffect.eq_raise_of_err {i : Instr} (h : CommandEffect s i t) (hs : s.err = false)
    (ht : t.err = true) :
    (i ≠ .loadDesc ∧ ∃ e ∈ commandErrors, t = s.raise e) ∨
      (i = .loadDesc ∧ ∃ e ∈ descriptorErrors, t = s.dropLatch.raise e) := by
  cases h with
  | @raised i e hi he =>
    have hload : i ≠ .loadDesc := by
      rintro rfl
      simp [needsDescriptor] at hi
    exact .inl ⟨hload, e, he, rfl⟩
  | @dropped e he => exact .inr ⟨rfl, e, mem_descriptorErrors_of_checkDescriptor he, rfl⟩
  | _ => simp [hs] at ht

/-- Settles O15: `raise` writes the two fields, and `dropLatch` the latch and `DESC_VALID`. -/
theorem raiseWritesOnlyTheError : Obligations.RaiseWritesOnlyTheError := by
  unfold Obligations.RaiseWritesOnlyTheError
  intro i s t hs h ht
  obtain ⟨hload, e, he, rfl⟩ | ⟨hload, e, he, rfl⟩ := (exec_effect h).eq_raise_of_err hs ht
  · exact ⟨fun _ => ⟨rfl, code_mem_of_mem_commandErrors he⟩, fun h' => absurd h' hload⟩
  · exact ⟨fun h' => absurd hload h', fun _ => ⟨rfl, code_mem_of_mem_descriptorErrors he⟩⟩

/-! ## The descriptor is not loaded (R255) -/

/-- Settles O17: each of the seven commands checks `DESC_VALID` first, the two decoding ones while they
select the class. -/
theorem descriptorNotLoadedRaised : Obligations.DescriptorNotLoadedRaised := by
  unfold Obligations.DescriptorNotLoadedRaised
  intro i s hi hv
  simp only [needsDescriptor, List.mem_cons, List.not_mem_nil, or_false] at hi
  obtain rfl | rfl | rfl | rfl | rfl | rfl | rfl := hi
  · exact execRotation_of_notLoaded hv
  · exact execBswidth_of_notLoaded hv
  · exact execPixidx_of_notLoaded hv
  · exact execResolve_of_notLoaded hv
  · exact execFetch_of_notLoaded hv
  · exact execFetchDecode_of_class_error (decodeClass_of_notLoaded hv)
  · exact execDecode_of_error (decodeClass_of_notLoaded hv)

end Sys2Proof.Machine
end

section
/-! The live descriptor registers (70_reset_and_hazards.md R286): after LOAD_DESC no command sees them but the
next LOAD_DESC, and FMT_LOOKUP, which reads the live `DESC_FORMAT` (40_control_and_descriptor.md R124). -/

namespace Sys2Proof.Machine

variable {s : State} {d : DescRegs} {i : Instr}

/-! ## The same state under other descriptor registers -/

/-- The state after the host wrote the live descriptor registers, which then hold `d`. -/
abbrev State.withDesc (s : State) (d : DescRegs) : State := { s with desc := d }

/-- The command does under the live registers `d` what it does under the state's own: no part of its result
but those registers tells the two apart. -/
def SameUnder (d : DescRegs) (i : Instr) (s : State) : Prop :=
  ∀ t, exec i s = .next t → exec i (s.withDesc d) = .next (t.withDesc d)

/-- Where the results under the two descriptors are known, it is enough that they agree. -/
theorem SameUnder.of_next {u : State} (h : exec i s = .next u)
    (hd : exec i (s.withDesc d) = .next (u.withDesc d)) : SameUnder d i s := by
  intro t ht
  cases h.symm.trans ht
  exact hd

/-- A command that chooses between two updates by a test that does not see the live registers. -/
theorem SameUnder.of_ite {b : Bool} {u v : State} (h : exec i s = .next (if b then u else v))
    (hd : exec i (s.withDesc d) = .next (if b then u.withDesc d else v.withDesc d)) :
    SameUnder d i s :=
  .of_next h (hd.trans (congrArg _ (apply_ite (State.withDesc · d) _ u v).symm))

/-- A fetch takes the element's size and the bound of the buffer from the latch. -/
theorem State.fetchElement_withDesc (s : State) (d : DescRegs) (addr : Nat) :
    (s.withDesc d).fetchElement addr = (s.fetchElement addr).withDesc d := by
  rw [State.fetchElement, State.fetchElement, apply_ite (State.withDesc · d)]
  rfl

/-! ## What each command sees of the live registers -/

/-- FMT_LOOKUP sees the live format and no other live register (40_control_and_descriptor.md R124). -/
theorem sameUnder_fmtLookup (hf : d.format = s.desc.format) : SameUnder d .fmtLookup s := by
  have hlookup : exec .fmtLookup (s.withDesc d) =
      .next (((s.withDesc d).setRes0 (s.cfg.bitsPerPixel d.format)).setRes1
        (classWord s.cfg d.format)) := rfl
  rw [hf] at hlookup
  exact .of_next rfl hlookup

theorem sameUnder_resolve : SameUnder d .resolve s := by
  cases hv : s.descValid with
  | false =>
    exact .of_next (execResolve_of_notLoaded hv) (execResolve_of_notLoaded (s := s.withDesc d) hv)
  | true =>
    cases hr : resolveElement s with
    | error e =>
      exact .of_next (execResolve_of_error hv hr) (execResolve_of_error (s := s.withDesc d) hv hr)
    | ok addr => exact .of_ite (execResolve_of_ok hv hr) (execResolve_of_ok (s := s.withDesc d) hv hr)

theorem sameUnder_fetch : SameUnder d .fetch s := by
  cases hv : s.descValid with
  | false => exact .of_next (execFetch_of_notLoaded hv) (execFetch_of_notLoaded (s := s.withDesc d) hv)
  | true =>
    cases hr : resolveElement s with
    | error e => exact .of_next (execFetch_of_error hv hr) (execFetch_of_error (s := s.withDesc d) hv hr)
    | ok addr =>
      have hfetch := execFetch_of_ok (s := s.withDesc d) hv hr
      rw [State.fetchElement_withDesc] at hfetch
      exact .of_next (execFetch_of_ok hv hr) hfetch

theorem sameUnder_decode (sel : Option BcClass) : SameUnder d (.decode sel) s := by
  cases hc : decodeClass s sel with
  | error e => exact .of_next (execDecode_of_error hc) (execDecode_of_error (s := s.withDesc d) hc)
  | ok cls => exact .of_next (execDecode_of_ok hc) (execDecode_of_ok (s := s.withDesc d) hc)

theorem sameUnder_fetchDecode : SameUnder d .fetchDecode s := by
  cases hc : decodeClass s none with
  | error e =>
    exact .of_next (execFetchDecode_of_class_error hc)
      (execFetchDecode_of_class_error (s := s.withDesc d) hc)
  | ok cls =>
    cases hr : resolveElement s with
    | error e =>
      exact .of_next (execFetchDecode_of_resolve_error hc hr)
        (execFetchDecode_of_resolve_error (s := s.withDesc d) hc hr)
    | ok addr =>
      have hdecode := execFetchDecode_of_ok (s := s.withDesc d) hc hr
      rw [State.fetchElement_withDesc] at hdecode
      exact .of_next (execFetchDecode_of_ok hc hr) hdecode

/-- Settles O21: every operand of a command but LOAD_DESC comes from the latch or from a register that is not
a live descriptor register, the format of FMT_LOOKUP excepted. -/
theorem liveDescriptorHasNoEffect : Obligations.LiveDescriptorHasNoEffect := by
  unfold Obligations.LiveDescriptorHasNoEffect
  intro i s t d hload hformat h
  have hsame : SameUnder d i s := by
    cases i with
    | loadDesc => exact absurd rfl hload
    | fmtLookup => exact sameUnder_fmtLookup (hformat rfl)
    | nop | clearStatus | pipe | bank => exact .of_next rfl rfl
    | rotation | bswidth | pixidx => exact .of_ite rfl rfl
    | resolve => exact sameUnder_resolve
    | fetch => exact sameUnder_fetch
    | decode sel => exact sameUnder_decode sel
    | fetchDecode => exact sameUnder_fetchDecode
  exact hsame t h

end Sys2Proof.Machine
end
